-- ==== Sys2Proof/Word.lean ====
section
/-! DEFINITION. The word types of the proj3 core (00_scope.md R4, R6). Arithmetic is `BitVec`'s own, modulo 2^32. -/

namespace Sys2Proof

/-- A register, a cell's value, a latch operand, the program counter: 32 bits (00_scope.md R4, XLEN). -/
abbrev Word := BitVec 32

/-- One 8-bit field of an instruction word (30_encoding.md R71), and one quarter of a cell. -/
abbrev Byte := BitVec 8

end Sys2Proof
end

