-- ==== Sys2Proof/Config.lean ====
section
/-! DEFINITION. The sizes and parameters of 00_scope.md R4. The sizes are fixed by the spec. The three OPEN parameters of
92_eei_decisions.md (PRED_UPDATE, PROG_LEN, INIT_MEM) are not constants here: they are fields of the machine's state, so that
every statement covers every value of them (log entries 2, 6, 7). The spec leaves no value undefined
(93_implementation_defined.md section 1), so there is no free value. -/

namespace Sys2Proof

/-- MEMWORDS: the number of memory cells (00_scope.md R4; 10_state.md R23). -/
abbrev Config.memWords : Nat := 65536

/-- The number of bytes the cells span: `pc` counts bytes, four to a cell (20_memory.md R51). -/
abbrev Config.memBytes : Nat := 262144

/-- The default of PRED_UPDATE (00_scope.md R4; 42_branch_predictor.md R129). -/
abbrev Config.predUpdateDefault : Bool := false

end Sys2Proof
end

