-- ==== Sys2Proof/Syntax.lean ====
section
/-! DEFINITION. The thirteen instructions (30_encoding.md R74), one constructor per row of spec/opcode_table.json.

An instruction is the record `{opcode, dest, left_operand, right_operand}` of 10_state.md R25: the constructor is the opcode,
`dest` is 8 bits, `left` and `right` are 32 bits. The same record is what the decoder makes of a cell (30_encoding.md R72, the
8-bit fields sign-extended) and what a latch carries, where the stages overwrite `left` and `right` with register values and
results (30_encoding.md R82). Every instruction carries all three operands, used or not: an unused `dest` or `left` is still seen
by the hazard comparator (30_encoding.md R76). -/

namespace Sys2Proof

/-- One constructor per row of the opcode table, in the order of 30_encoding.md R74. -/
inductive Instr where
  /-- SET, opcode 0 (43_set_arith.md R135): `left` is the immediate. -/
  | set (dest : Byte) (left right : Word)
  /-- ADD, opcode 1 (43_set_arith.md R136). -/
  | add (dest : Byte) (left right : Word)
  /-- SUB, opcode 2 (43_set_arith.md R137). -/
  | sub (dest : Byte) (left right : Word)
  /-- MUL, opcode 3 (43_set_arith.md R138). -/
  | mul (dest : Byte) (left right : Word)
  /-- DIV, opcode 4 (43_set_arith.md R139). -/
  | div (dest : Byte) (left right : Word)
  /-- LD, opcode 5 (44_load_store.md R151): `right` is the cell read, `left` is seen by the hazard comparator. -/
  | ld (dest : Byte) (left right : Word)
  /-- ST, opcode 6 (44_load_store.md R152): `left` is the cell written, `right` the literal. -/
  | st (dest : Byte) (left right : Word)
  /-- BEZ, opcode 7 (45_branches.md R161): `dest` is the register tested, `left` the target. -/
  | bez (dest : Byte) (left right : Word)
  /-- BGEZ, opcode 8 (45_branches.md R162). -/
  | bgez (dest : Byte) (left right : Word)
  /-- BLEZ, opcode 9 (45_branches.md R163). -/
  | blez (dest : Byte) (left right : Word)
  /-- BGTZ, opcode 10 (45_branches.md R164). -/
  | bgtz (dest : Byte) (left right : Word)
  /-- BLTZ, opcode 11 (45_branches.md R165). -/
  | bltz (dest : Byte) (left right : Word)
  /-- RET, opcode 12 (46_ret_illegal.md R175): every operand is ignored. -/
  | ret (dest : Byte) (left right : Word)
deriving DecidableEq, Repr

/-- The record the fixed decoder makes of ANY word, defined opcode or not (30_encoding.md R72). -/
structure Fields where
  opcode : Byte
  dest : Byte
  left : Word
  right : Word
deriving DecidableEq, Repr

/-- The `left` operand of an instruction. -/
def Instr.left : Instr → Word
  | .set _ l _ | .add _ l _ | .sub _ l _ | .mul _ l _ | .div _ l _ | .ld _ l _ | .st _ l _ => l
  | .bez _ l _ | .bgez _ l _ | .blez _ l _ | .bgtz _ l _ | .bltz _ l _ | .ret _ l _ => l

/-- The `right` operand of an instruction. -/
def Instr.right : Instr → Word
  | .set _ _ r | .add _ _ r | .sub _ _ r | .mul _ _ r | .div _ _ r | .ld _ _ r | .st _ _ r => r
  | .bez _ _ r | .bgez _ _ r | .blez _ _ r | .bgtz _ _ r | .bltz _ _ r | .ret _ _ r => r

/-- The `dest` field of an instruction. -/
def Instr.dest : Instr → Byte
  | .set d _ _ | .add d _ _ | .sub d _ _ | .mul d _ _ | .div d _ _ | .ld d _ _ | .st d _ _ => d
  | .bez d _ _ | .bgez d _ _ | .blez d _ _ | .bgtz d _ _ | .bltz d _ _ | .ret d _ _ => d

end Sys2Proof
end

