-- ==== Sys2Proof/WellFormed.lean ====
section
/-! DEFINITION. Which instruction records have an encoding: the operands that fit the 8-bit fields of a memory word
(30_encoding.md R73). An instruction in flight may fail this check (it carries a register value or a result); it then has no
encoding and needs none (log entry 10). -/

namespace Sys2Proof

/-- The signed reading of the operand is in -128..127 (30_encoding.md R73). -/
abbrev FitsByte (v : Word) : Prop := -128 ≤ v.toInt ∧ v.toInt ≤ 127

/-- The record has an encoding (30_encoding.md R73; `opcode` and `dest` are in 0..255 by their type). -/
abbrev Fields.Encodable (f : Fields) : Prop := FitsByte f.left ∧ FitsByte f.right

/-- The instruction has an encoding (30_encoding.md R73). -/
abbrev Instr.WellFormed (i : Instr) : Prop := FitsByte i.left ∧ FitsByte i.right

end Sys2Proof
end

