-- ==== Sys2Proof/Decode.lean ====
section
/-! DEFINITION. The fixed decoder, the opcode map and the encoder (30_encoding.md sections 1 to 3). The decoder is total on all
2^32 words: `decodeFields` reads the record of any word, `decode` names the instruction or rejects an opcode outside 0..12. -/

namespace Sys2Proof

/-- `sext_32` of an 8-bit field: bit 7 is copied into bits 31..8 (00_scope.md R6). -/
def sext8 (f : Byte) : Word := f.signExtend 32

/-- `zext_32` of an 8-bit field (00_scope.md R6). -/
def zext8 (f : Byte) : Word := f.setWidth 32

/-- `decode(w)` of 30_encoding.md R72: the record, whatever the opcode. -/
def decodeFields (w : Word) : Fields where
  opcode := w.extractLsb' 24 8
  dest := w.extractLsb' 16 8
  left := sext8 (w.extractLsb' 8 8)
  right := sext8 (w.extractLsb' 0 8)

/-- The opcode map of 30_encoding.md R74, from the number to the instruction; `none` for 13..255 (R75). -/
def Fields.instr? (f : Fields) : Option Instr :=
  match f.opcode.toNat with
  | 0 => some (.set f.dest f.left f.right)
  | 1 => some (.add f.dest f.left f.right)
  | 2 => some (.sub f.dest f.left f.right)
  | 3 => some (.mul f.dest f.left f.right)
  | 4 => some (.div f.dest f.left f.right)
  | 5 => some (.ld f.dest f.left f.right)
  | 6 => some (.st f.dest f.left f.right)
  | 7 => some (.bez f.dest f.left f.right)
  | 8 => some (.bgez f.dest f.left f.right)
  | 9 => some (.blez f.dest f.left f.right)
  | 10 => some (.bgtz f.dest f.left f.right)
  | 11 => some (.bltz f.dest f.left f.right)
  | 12 => some (.ret f.dest f.left f.right)
  | _ => none

/-- The opcode number of an instruction (30_encoding.md R74). -/
def Instr.opcode : Instr → Byte
  | .set _ _ _ => 0
  | .add _ _ _ => 1
  | .sub _ _ _ => 2
  | .mul _ _ _ => 3
  | .div _ _ _ => 4
  | .ld _ _ _ => 5
  | .st _ _ _ => 6
  | .bez _ _ _ => 7
  | .bgez _ _ _ => 8
  | .blez _ _ _ => 9
  | .bgtz _ _ _ => 10
  | .bltz _ _ _ => 11
  | .ret _ _ _ => 12

/-- The record of an instruction. -/
def Instr.fields (i : Instr) : Fields := ⟨i.opcode, i.dest, i.left, i.right⟩

/-- Why the decoder names no instruction. -/
inductive Reject where
  /-- The opcode is outside the set 0..12 (30_encoding.md R75). The machine goes on: the word is admitted and dropped in ID
  (46_ret_illegal.md R176). -/
  | illegalOpcode (opcode : Byte)
deriving DecidableEq, Repr

/-- The instruction a word stands for (30_encoding.md R72, R74), or the reason it stands for none (R75). -/
def decode (w : Word) : Except Reject Instr :=
  match (decodeFields w).instr? with
  | some i => .ok i
  | none => .error (.illegalOpcode (decodeFields w).opcode)

/-- `encode(i)` of 30_encoding.md R73: opcode, dest, the low 8 bits of left, the low 8 bits of right, high byte first. -/
def encodeFields (f : Fields) : Word :=
  f.opcode ++ f.dest ++ f.left.extractLsb' 0 8 ++ f.right.extractLsb' 0 8

/-- The word of an instruction. It is meant for a well-formed one (30_encoding.md R73). -/
def encode (i : Instr) : Word := encodeFields i.fields

/-- The instruction the decoder reads from the `nbits`-bit number `w` of spec/opcode_table.json. An instruction is one 32-bit
cell (30_encoding.md R70), so the number is the cell and every bit above `nbits` is 0. -/
def decodeTableWord (nbits w : Nat) : Option Instr :=
  match decode (BitVec.ofNat 32 (w % 2 ^ nbits)) with
  | .ok i => some i
  | .error _ => none

end Sys2Proof
end

