-- ==== Sys2Proof/Machine/State.lean ====
section
/-! DEFINITION. The state of the core: every row of 10_state.md R20 and the two fields of the model's own (log entries 1 and 2),
the reasons a step can stop, and the state after reset (10_state.md R33). The updates named here change one field each. -/

namespace Sys2Proof.Machine

/-- The eleven stages in pipeline order (00_scope.md R10). `ifetch` is IF. -/
inductive Stage where
  | ifetch | id | ia | rr | add | mul | div | br | mem1 | mem2 | wb
deriving DecidableEq, Repr

/-- The stages in pipeline order. -/
def Stage.all : List Stage := [.ifetch, .id, .ia, .rr, .add, .mul, .div, .br, .mem1, .mem2, .wb]

/-- The zero-based stage number (00_scope.md R10), the value of the 4-bit `stage` field of FAULT (10_state.md R29). -/
def Stage.number : Stage → BitVec 4
  | .ifetch => 0
  | .id => 1
  | .ia => 2
  | .rr => 3
  | .add => 4
  | .mul => 5
  | .div => 6
  | .br => 7
  | .mem1 => 8
  | .mem2 => 9
  | .wb => 10

/-- The stage a slot moves to; WB has none, its slot leaves the pipe (40_pipeline_cycle.md R91). -/
def Stage.next? : Stage → Option Stage
  | .ifetch => some .id
  | .id => some .ia
  | .ia => some .rr
  | .rr => some .add
  | .add => some .mul
  | .mul => some .div
  | .div => some .br
  | .br => some .mem1
  | .mem1 => some .mem2
  | .mem2 => some .wb
  | .wb => none

/-- The record a latch holds (10_state.md R25). `valid` is the spec's `state` bit. -/
structure Slot where
  valid : Bool
  opcode : Byte
  dest : Byte
  left : Word
  right : Word
  fpc : Word
deriving DecidableEq, Repr

/-- `EMPTY`: the slot with every field 0 (10_state.md R25). -/
def Slot.empty : Slot := ⟨false, 0, 0, 0, 0, 0⟩

/-- The eleven latches, one per stage (10_state.md R26). -/
structure Latches where
  ifetch : Slot
  id : Slot
  ia : Slot
  rr : Slot
  add : Slot
  mul : Slot
  div : Slot
  br : Slot
  mem1 : Slot
  mem2 : Slot
  wb : Slot
deriving DecidableEq, Repr

/-- The latch of a stage. -/
def Latches.get (L : Latches) : Stage → Slot
  | .ifetch => L.ifetch
  | .id => L.id
  | .ia => L.ia
  | .rr => L.rr
  | .add => L.add
  | .mul => L.mul
  | .div => L.div
  | .br => L.br
  | .mem1 => L.mem1
  | .mem2 => L.mem2
  | .wb => L.wb

/-- The latches with one of them overwritten. -/
def Latches.set (L : Latches) (st : Stage) (sl : Slot) : Latches :=
  match st with
  | .ifetch => { L with ifetch := sl }
  | .id => { L with id := sl }
  | .ia => { L with ia := sl }
  | .rr => { L with rr := sl }
  | .add => { L with add := sl }
  | .mul => { L with mul := sl }
  | .div => { L with div := sl }
  | .br => { L with br := sl }
  | .mem1 => { L with mem1 := sl }
  | .mem2 => { L with mem2 := sl }
  | .wb => { L with wb := sl }

/-- All eleven latches EMPTY (10_state.md R33). -/
def Latches.empty : Latches :=
  ⟨.empty, .empty, .empty, .empty, .empty, .empty, .empty, .empty, .empty, .empty, .empty⟩

/-- The causes of a fault (60_exceptions.md R181). -/
inductive FaultCause where
  /-- Code 1: a DIV whose divisor is 0, in Div. -/
  | divZero
  /-- Code 2: a register index outside 0..15, in RR or WB. -/
  | regIndex
  /-- Code 3: a memory index outside 0..65535, in Mem1 or Mem2. -/
  | memIndex
deriving DecidableEq, Repr

/-- The sticky record FAULT (10_state.md R29); `none` is cause code 0, no fault recorded. The codes and stage numbers the spec gives no
meaning cannot be written (DESIGN CHOICE, log entry 14). -/
structure FaultRecord where
  cause : Option FaultCause
  stage : Stage
  fpc : Word
deriving DecidableEq, Repr

/-- The 3-bit cause code (60_exceptions.md R181). -/
def FaultRecord.code (f : FaultRecord) : BitVec 3 :=
  match f.cause with
  | none => 0
  | some .divZero => 1
  | some .regIndex => 2
  | some .memIndex => 3

/-- FAULT with all fields 0 (10_state.md R29, R33); stage number 0 is IF. -/
def FaultRecord.clear : FaultRecord := ⟨none, .ifetch, 0⟩

/-- The bytes of the unified memory (10_state.md R23), cell `i` at byte addresses `4*i` to `4*i+3` (20_memory.md R51), listed in
the canonical form of `Memory.wf` (Machine/Ops.lean). -/
abbrev Memory := List Host.Cell

/-- The complete state of the core (10_state.md R20), and last the two fields that are the model's own. -/
structure State where
  /-- `x[0..15]` (R21). -/
  regs : Vector Word 16
  /-- `pc`, a byte offset (R22). -/
  pc : Word
  /-- `Mem` (R23). -/
  mem : Memory
  /-- `PROG_LEN` (R24); legal values are 0..65536. -/
  progLen : Nat
  /-- `L.IF` to `L.WB` (R26). -/
  latches : Latches
  /-- The pattern table (R27). -/
  pt : Vector (BitVec 2) 16
  /-- The branch target table (R27). -/
  btb : Vector Word 16
  /-- `CYCLES` (R28), a natural as the spec asks (log entry 9). -/
  cycles : Nat
  /-- `STALLS` (R28). -/
  stalls : Nat
  /-- `COMMITS` (R28). -/
  commits : Nat
  /-- `FAULT` (R29). -/
  fault : FaultRecord
  /-- `ILLEGAL` (R30). -/
  illegal : Bool
  /-- `ILLEGAL_COUNT` (R30). -/
  illegalCount : Nat
  /-- THE MODEL'S OWN (log entry 1): the stage whose action the traversal is about to perform. -/
  cursor : Stage
  /-- THE MODEL'S OWN (log entry 2): the parameter PRED_UPDATE of 42_branch_predictor.md R129, fixed for a run. -/
  predUpdate : Bool
deriving DecidableEq, Repr

/-- Why a step stops with a fault. -/
inductive Fault where
  /-- Raised by the cycle step, of a core in which FAULT is already recorded: HALTED holds and the core takes no further step
  (60_exceptions.md R184). The ENTRY of a fault is a next state, in which FAULT is written. Safe: the machine stops too. -/
  | halted (cause : FaultCause)
deriving DecidableEq, Repr

/-- Why a step is refused. -/
inductive Refusal where
  /-- Raised by an arm of `exec` for an instruction without a meaning; no arm does. Safe. -/
  | notModelled (mnemonic : String)
  /-- Raised by the cycle step when PROG_LEN is above 65536, which the model refuses (10_state.md R24, 92_eei_decisions.md D29; log
  entry 15).
  Safe: the spec makes it a precondition of a run. -/
  | programTooLong
deriving DecidableEq, Repr

/-- The machine right after reset (10_state.md R33). The spec states every value but the two the host supplies: INIT_MEM (here
nothing listed, log entry 6) and PROG_LEN (here 0, log entry 7). -/
def State.reset : State where
  regs := Vector.replicate 16 0
  pc := 0
  mem := []
  progLen := 0
  latches := .empty
  pt := Vector.replicate 16 0
  btb := Vector.replicate 16 0
  cycles := 0
  stalls := 0
  commits := 0
  fault := .clear
  illegal := false
  illegalCount := 0
  cursor := .ifetch
  predUpdate := Config.predUpdateDefault

/-- The start of a run on an image and a program length the host loaded (70_reset_and_hazards.md R201; INIT_MEM, PROG_LEN and
PRED_UPDATE of 00_scope.md R4). -/
def State.boot (image : Memory) (progLen : Nat) (predUpdate : Bool) : State :=
  { State.reset with mem := image, progLen := progLen, predUpdate := predUpdate }

/-- The slot in the latch of a stage. -/
def State.slotAt (s : State) (st : Stage) : Slot := s.latches.get st

/-- One latch overwritten. -/
def State.setLatch (s : State) (st : Stage) (sl : Slot) : State := { s with latches := s.latches.set st sl }

/-- `pc <- t`. -/
def State.setPc (s : State) (t : Word) : State := { s with pc := t }

/-- The memory replaced. -/
def State.setMem (s : State) (m : Memory) : State := { s with mem := m }

/-- The register file replaced. -/
def State.setRegs (s : State) (r : Vector Word 16) : State := { s with regs := r }

/-- One counter of the pattern table replaced. -/
def State.setPt (s : State) (i : BitVec 4) (c : BitVec 2) : State := { s with pt := s.pt.set i.toNat c i.isLt }

/-- One entry of the branch target table replaced. -/
def State.setBtb (s : State) (i : BitVec 4) (t : Word) : State := { s with btb := s.btb.set i.toNat t i.isLt }

/-- `FAULT` written. -/
def State.setFault (s : State) (f : FaultRecord) : State := { s with fault := f }

/-- The model's cursor moved. -/
def State.setCursor (s : State) (st : Stage) : State := { s with cursor := st }

/-- `CYCLES <- CYCLES + 1`. -/
def State.addCycle (s : State) : State := { s with cycles := s.cycles + 1 }

/-- `STALLS <- STALLS + 1`. -/
def State.addStall (s : State) : State := { s with stalls := s.stalls + 1 }

/-- `COMMITS <- COMMITS + 1`. -/
def State.addCommit (s : State) : State := { s with commits := s.commits + 1 }

/-- `ILLEGAL <- 1 ; ILLEGAL_COUNT <- ILLEGAL_COUNT + 1`. -/
def State.reportIllegal (s : State) : State := { s with illegal := true, illegalCount := s.illegalCount + 1 }

end Sys2Proof.Machine
end

