-- ==== Sys2Proof/Machine/Ops.lean ====
section
/-! DEFINITION. The named operations over memory, registers and latches (00_scope.md R7), taking a fault (60_exceptions.md R183)
and, beside it, the one way out of it, reset (R184), and the signals of 10_state.md R35. -/

namespace Sys2Proof.Machine

/-! ### Memory (20_memory.md)

Cell `i` is bytes `4*i` to `4*i+3`, low byte first (DESIGN CHOICE, log entry 5: no access is narrower than a cell, R52). An
unlisted byte reads 0 (DESIGN CHOICE, log entry 6). -/

/-- One byte of the memory. -/
def readByte : Memory → Nat → Byte
  | [], _ => 0
  | (a, b) :: m, k => if a = k then b else readByte m k

/-- One byte of the memory replaced, the list kept in its canonical form: writing 0, which an unlisted byte reads as, removes
the entry. -/
def writeByte : Memory → Nat → Byte → Memory
  | [], k, v => if v = 0 then [] else [(k, v)]
  | (a, b) :: m, k, v =>
    if k < a then (if v = 0 then (a, b) :: m else (k, v) :: (a, b) :: m)
    else if k = a then (if v = 0 then m else (k, v) :: m)
    else (a, b) :: writeByte m k v

/-- From address `lo` on: addresses strictly rising, inside the 65536 cells, no entry equal to what an unlisted byte reads. -/
def Memory.wfFrom : Nat → Memory → Bool
  | _, [] => true
  | lo, (a, b) :: m => decide (lo ≤ a) && decide (a < Config.memBytes) && decide (b ≠ 0) && Memory.wfFrom (a + 1) m

/-- The canonical form: equal memories are equal lists. -/
def Memory.wf (m : Memory) : Bool := Memory.wfFrom 0 m

/-- `Mem[i]`: one whole 32-bit cell (20_memory.md R54). -/
def readCell (m : Memory) (i : Nat) : Word :=
  readByte m (4 * i + 3) ++ readByte m (4 * i + 2) ++ readByte m (4 * i + 1) ++ readByte m (4 * i)

/-- `Mem[i] <- v`: one whole 32-bit cell (20_memory.md R54). -/
def writeCell (m : Memory) (i : Nat) (v : Word) : Memory :=
  writeByte
    (writeByte
      (writeByte
        (writeByte m (4 * i) (v.extractLsb' 0 8))
        (4 * i + 1) (v.extractLsb' 8 8))
      (4 * i + 2) (v.extractLsb' 16 8))
    (4 * i + 3) (v.extractLsb' 24 8)

/-- `MemRead(a, 1)` (20_memory.md R56). -/
def memRead (a : Word) (s : State) : Except FaultCause Word :=
  if a.toNat < Config.memWords then .ok (readCell s.mem a.toNat) else .error .memIndex

/-- `MemWrite(a, 1, v)` (20_memory.md R56). -/
def memWrite (a v : Word) (s : State) : Except FaultCause State :=
  if a.toNat < Config.memWords then .ok (s.setMem (writeCell s.mem a.toNat v)) else .error .memIndex

/-! ### Registers (10_state.md R21) -/

/-- `x[i]`: the index is valid iff it is 0..15, signed or unsigned (00_scope.md R7). -/
def readReg (i : Word) (s : State) : Except FaultCause Word :=
  if h : i.toNat < 16 then .ok s.regs[i.toNat] else .error .regIndex

/-- `x[i] <- v` (00_scope.md R7). None of the sixteen is hard-wired (10_state.md R21). -/
def writeReg (i v : Word) (s : State) : Except FaultCause State :=
  if h : i.toNat < 16 then .ok (s.setRegs (s.regs.set i.toNat v)) else .error .regIndex

/-! ### Faults (60_exceptions.md) -/

/-- `HALTED` (10_state.md R35). -/
def State.halted (s : State) : Bool := s.fault.cause.isSome

/-- A stage action raises a fault: FAULT is written with the cause, the stage the traversal is at and the `fpc` of the slot in
that stage's latch (60_exceptions.md R181). The rest of R183 is `abandon`. -/
def raiseFault (c : FaultCause) (s : State) : State :=
  s.setFault ⟨some c, s.cursor, (s.slotAt s.cursor).fpc⟩

/-- The outcome of a primitive that may raise: go on with its value, or take the fault. -/
def orFault {α : Type} (r : Except FaultCause α) (s : State) (go : α → State) : State :=
  match r with
  | .ok v => go v
  | .error c => raiseFault c s

/-- TAKING A FAULT, for the step as a whole (60_exceptions.md R183): every piece of state keeps the value it had before the
step began, and only FAULT is written. -/
def abandon (before after : State) : State := before.setFault after.fault

/-- The only way out of a fault is reset (60_exceptions.md R184): every value of 10_state.md R33, with Mem and PROG_LEN not
written (70_reset_and_hazards.md R200) and the parameter PRED_UPDATE kept. It is the host's input, no step performs it (log entry
17). -/
def applyReset (s : State) : State := State.boot s.mem s.progLen s.predUpdate

/-! ### Latches (40_pipeline_cycle.md R91, R92) -/

/-- A slot made of a record and the address it was fetched from (10_state.md R25). -/
def Slot.ofFields (f : Fields) (fpc : Word) : Slot := ⟨true, f.opcode, f.dest, f.left, f.right, fpc⟩

/-- The record in a slot. -/
def Slot.fields (sl : Slot) : Fields := ⟨sl.opcode, sl.dest, sl.left, sl.right⟩

/-- The transfer of line 2 to 10 of R91: the slot, as the stage at the cursor left it, overwrites the next stage's latch. A slot
that WB acted on leaves the pipe (line 1). -/
def deliver (sl : Slot) (s : State) : State :=
  match s.cursor.next? with
  | some n => s.setLatch n sl
  | none => s

/-- The record moves on from the stage at the cursor, with the fetch address of the slot it came in (R92). -/
def passFields (f : Fields) (s : State) : State := deliver (.ofFields f (s.slotAt s.cursor).fpc) s

/-- The instruction moves on from the stage at the cursor (R92). -/
def passOn (i : Instr) (s : State) : State := passFields i.fields s

/-! ### WB (40_pipeline_cycle.md R98) -/

/-- WB of a register-writing instruction: `x[dest] <- right`, then the commit is counted. -/
def commitResult (d : Byte) (v : Word) (s : State) : State :=
  orFault (writeReg (zext8 d) v s) s State.addCommit

/-! ### Signals (10_state.md R35) -/

/-- `pipeline_empty`: the `state` bit of every one of the eleven latches is 0. -/
def State.pipelineEmpty (s : State) : Bool := Stage.all.all fun st => !(s.slotAt st).valid

/-- `fetch_exhausted`: `u(pc) >= 4 * PROG_LEN` (10_state.md R24). -/
def State.fetchExhausted (s : State) : Bool := decide (4 * s.progLen ≤ s.pc.toNat)

/-- `DONE` (10_state.md R35). -/
def State.done (s : State) : Bool := s.fetchExhausted && s.pipelineEmpty

end Sys2Proof.Machine
end

