-- ==== Sys2Proof/Machine/Operands.lean ====
section
/-! DEFINITION. The operand forms (30_encoding.md R76): the registers RR reads, the index of a cell, the absolute address of a
branch target. There is no other addressing mode (44_load_store.md R150, 45_branches.md R160). -/

namespace Sys2Proof.Machine

/-- The RR action's read for the arithmetic class (43_set_arith.md R140): both indices are taken before either operand is
replaced. -/
def readSources (a b : Word) (s : State) : Except FaultCause (Word × Word) :=
  match readReg a s with
  | .error c => .error c
  | .ok x =>
    match readReg b s with
    | .error c => .error c
    | .ok y => .ok (x, y)

/-- The RR action's read for a branch: the register tested (45_branches.md R160). -/
def readTested (d : Byte) (s : State) : Except FaultCause Word := readReg (zext8 d) s

/-- The cell a `pc` fetches from: the floor of `pc / 4`, the low two bits ignored (10_state.md R22). -/
def fetchIndex (pc : Word) : Nat := pc.toNat / 4

end Sys2Proof.Machine
end

