-- ==== Sys2Proof/Machine/Predictor.lean ====
section
/-! DEFINITION. The branch predictor (42_branch_predictor.md): `predict`, asked by IF, and `update`, called by BR when
PRED_UPDATE is true. -/

namespace Sys2Proof.Machine

/-- `index(a) = (a / 4) mod 16`, bits 5 to 2 of the address (R126). -/
def predIndex (a : Word) : BitVec 4 := a.extractLsb' 2 4

/-- `pt[i]`. -/
def State.ptAt (s : State) (i : BitVec 4) : BitVec 2 := s.pt[i.toNat]'i.isLt

/-- `btb[i]`. -/
def State.btbAt (s : State) (i : BitVec 4) : Word := s.btb[i.toNat]'i.isLt

/-- `predict(a)`: whether taken, and the address fetch goes on from (R127). -/
def predict (a : Word) (s : State) : Bool × Word :=
  let taken := decide (1 < (s.ptAt (predIndex a)).toNat)
  (taken, if taken then s.btbAt (predIndex a) else a + 4)

/-- `min(c + 1, 3)` (R128). -/
def satInc (c : BitVec 2) : BitVec 2 := if c = 3 then 3 else c + 1

/-- `max(c - 1, 0)` (R128). -/
def satDec (c : BitVec 2) : BitVec 2 := if c = 0 then 0 else c - 1

/-- `update(a, outcome, t)` (R128). -/
def predUpdateAt (a : Word) (outcome : Bool) (t : Word) (s : State) : State :=
  let i := predIndex a
  if outcome then (s.setPt i (satInc (s.ptAt i))).setBtb i t
  else s.setPt i (satDec (s.ptAt i))

end Sys2Proof.Machine
end

