-- ==== Sys2Proof/Machine/Fetch.lean ====
section
/-! DEFINITION. What IF does with a fetched instruction (41_fetch_hazard.md R110): let it in, stall it, or redirect `pc` by the
predictor. -/

namespace Sys2Proof.Machine

/-- Put the record into `L.IF` with the address it was fetched from (41_fetch_hazard.md R116, R119). -/
def enterIF (f : Fields) (s : State) : State := s.setLatch .ifetch (.ofFields f s.pc)

/-- Admission of an instruction that is neither a branch nor stalled: `pc <- pc + 4` (41_fetch_hazard.md R119). -/
def admitFields (f : Fields) (s : State) : State := (enterIF f s).setPc (s.pc + 4)

/-- Admission of SET, the arithmetic class and RET, which IF does not check (41_fetch_hazard.md R115, R119). -/
def admitInstr (i : Instr) (s : State) : State := admitFields i.fields s

/-- The hazard condition for a LD or ST with this `left` field: the RR latch, as this cycle's traversal has already updated it,
holds a valid slot, of whatever opcode, with an equal `dest` (41_fetch_hazard.md R117). -/
def hazard (left : Word) (s : State) : Bool :=
  (s.slotAt .rr).valid && decide (left = zext8 (s.slotAt .rr).dest)

/-- IF of a LD or ST: a stalled cycle admits nothing and leaves `pc` (41_fetch_hazard.md R118), else admission. `STALLS` takes
the `stall` output here (40_pipeline_cycle.md R99, log entry 16). -/
def admitMemory (i : Instr) (s : State) : State :=
  if hazard i.left s then s.addStall else admitInstr i s

/-- IF of a branch: admitted, never stalled, and `pc` goes where the predictor says (41_fetch_hazard.md R116). -/
def admitBranch (i : Instr) (s : State) : State := (enterIF i.fields s).setPc (predict s.pc s).2

end Sys2Proof.Machine
end

