-- ==== Sys2Proof/Machine/Flags.lean ====
section
/-! DEFINITION. The core has no flags (10_state.md R31): a branch tests a register's value itself. Here are the five conditions,
on the signed reading of the value (45_branches.md R161 to R165). -/

namespace Sys2Proof.Machine

/-- BEZ: `v = 0` (45_branches.md R161). -/
def condEZ (v : Word) : Bool := decide (v = 0)

/-- BGEZ: `s(v) >= 0` (45_branches.md R162). -/
def condGEZ (v : Word) : Bool := decide (0 ≤ v.toInt)

/-- BLEZ: `s(v) <= 0` (45_branches.md R163). -/
def condLEZ (v : Word) : Bool := decide (v.toInt ≤ 0)

/-- BGTZ: `s(v) > 0` (45_branches.md R164). -/
def condGTZ (v : Word) : Bool := decide (0 < v.toInt)

/-- BLTZ: `s(v) < 0` (45_branches.md R165). -/
def condLTZ (v : Word) : Bool := decide (v.toInt < 0)

end Sys2Proof.Machine
end

