-- ==== Sys2Proof/Machine/Branches.lean ====
section
/-! DEFINITION. The five conditional branches (45_branches.md). -/

namespace Sys2Proof.Machine

/-- The BR action (45_branches.md R160): `pc <- target` if the condition holds, nothing to `pc` if it fails, and the predictor
told when PRED_UPDATE is true, with the fetch address of the slot in the latch at the cursor. -/
def resolve (c : Bool) (target : Word) (s : State) : State :=
  let t := if c then s.setPc target else s
  if t.predUpdate then predUpdateAt (s.slotAt s.cursor).fpc c target t else t

/-- BEZ (45_branches.md R161). -/
def execBez (d : Byte) (l r : Word) (s : State) : Host.Outcome State Fault Refusal :=
  match s.cursor with
  | .ifetch => .next (admitBranch (.bez d l r) s)
  | .rr => .next (orFault (readTested d s) s fun v => passOn (.bez d l v) s)
  | .br => .next (passOn (.bez d l r) (resolve (condEZ r) l s))
  | .wb => .next s.addCommit
  | .id | .ia | .add | .mul | .div | .mem1 | .mem2 => .next (passOn (.bez d l r) s)

/-- BGEZ (45_branches.md R162). -/
def execBgez (d : Byte) (l r : Word) (s : State) : Host.Outcome State Fault Refusal :=
  match s.cursor with
  | .ifetch => .next (admitBranch (.bgez d l r) s)
  | .rr => .next (orFault (readTested d s) s fun v => passOn (.bgez d l v) s)
  | .br => .next (passOn (.bgez d l r) (resolve (condGEZ r) l s))
  | .wb => .next s.addCommit
  | .id | .ia | .add | .mul | .div | .mem1 | .mem2 => .next (passOn (.bgez d l r) s)

/-- BLEZ (45_branches.md R163). -/
def execBlez (d : Byte) (l r : Word) (s : State) : Host.Outcome State Fault Refusal :=
  match s.cursor with
  | .ifetch => .next (admitBranch (.blez d l r) s)
  | .rr => .next (orFault (readTested d s) s fun v => passOn (.blez d l v) s)
  | .br => .next (passOn (.blez d l r) (resolve (condLEZ r) l s))
  | .wb => .next s.addCommit
  | .id | .ia | .add | .mul | .div | .mem1 | .mem2 => .next (passOn (.blez d l r) s)

/-- BGTZ (45_branches.md R164). -/
def execBgtz (d : Byte) (l r : Word) (s : State) : Host.Outcome State Fault Refusal :=
  match s.cursor with
  | .ifetch => .next (admitBranch (.bgtz d l r) s)
  | .rr => .next (orFault (readTested d s) s fun v => passOn (.bgtz d l v) s)
  | .br => .next (passOn (.bgtz d l r) (resolve (condGTZ r) l s))
  | .wb => .next s.addCommit
  | .id | .ia | .add | .mul | .div | .mem1 | .mem2 => .next (passOn (.bgtz d l r) s)

/-- BLTZ (45_branches.md R165). -/
def execBltz (d : Byte) (l r : Word) (s : State) : Host.Outcome State Fault Refusal :=
  match s.cursor with
  | .ifetch => .next (admitBranch (.bltz d l r) s)
  | .rr => .next (orFault (readTested d s) s fun v => passOn (.bltz d l v) s)
  | .br => .next (passOn (.bltz d l r) (resolve (condLTZ r) l s))
  | .wb => .next s.addCommit
  | .id | .ia | .add | .mul | .div | .mem1 | .mem2 => .next (passOn (.bltz d l r) s)

end Sys2Proof.Machine
end

