-- ==== Sys2Proof/Machine/LoadStore.lean ====
section
/-! DEFINITION. LD and ST (44_load_store.md): absolute cell indices, no register read for either (R150). -/

namespace Sys2Proof.Machine

/-- LD (44_load_store.md R151): IF checks the hazard on `left`, Mem2 reads the cell `right`, WB writes the register. -/
def execLd (d : Byte) (l r : Word) (s : State) : Host.Outcome State Fault Refusal :=
  match s.cursor with
  | .ifetch => .next (admitMemory (.ld d l r) s)
  | .mem2 => .next (orFault (memRead r s) s fun v => passOn (.ld d l v) s)
  | .wb => .next (commitResult d r s)
  | .id | .ia | .rr | .add | .mul | .div | .br | .mem1 => .next (passOn (.ld d l r) s)

/-- ST (44_load_store.md R152): IF checks the hazard on `left`, Mem1 writes the literal `right` to the cell `left`, WB only
counts the commit. -/
def execSt (d : Byte) (l r : Word) (s : State) : Host.Outcome State Fault Refusal :=
  match s.cursor with
  | .ifetch => .next (admitMemory (.st d l r) s)
  | .mem1 => .next (orFault (memWrite l r s) s fun t => passOn (.st d l r) t)
  | .wb => .next s.addCommit
  | .id | .ia | .rr | .add | .mul | .div | .br | .mem2 => .next (passOn (.st d l r) s)

end Sys2Proof.Machine
end

