-- ==== Sys2Proof/Machine/Ret.lean ====
section
/-! DEFINITION. RET, and what the stages do with a slot whose opcode is outside the set (46_ret_illegal.md). -/

namespace Sys2Proof.Machine

/-- RET (46_ret_illegal.md R175): a no-operation that commits. It returns from nothing and does not end the run. -/
def execRet (d : Byte) (l r : Word) (s : State) : Host.Outcome State Fault Refusal :=
  match s.cursor with
  | .ifetch => .next (admitInstr (.ret d l r) s)
  | .wb => .next s.addCommit
  | .id | .ia | .rr | .add | .mul | .div | .br | .mem1 | .mem2 => .next (passOn (.ret d l r) s)

/-- A valid slot with an opcode outside 0..12. ID reports and drops it (46_ret_illegal.md R176). No run has one in a later stage
(40_pipeline_cycle.md R97); there a stage whose opcode class it is not in passes it on (R96) and WB counts it like every valid slot
(R98) (DEDUCED, log entry 11). -/
def illegalStage (f : Fields) (s : State) : State :=
  match s.cursor with
  | .ifetch => admitFields f s
  | .id => (deliver .empty s).reportIllegal
  | .wb => s.addCommit
  | .ia | .rr | .add | .mul | .div | .br | .mem1 | .mem2 => passFields f s

end Sys2Proof.Machine
end

