-- ==== Sys2Proof/Machine/SetArith.lean ====
section
/-! DEFINITION. SET, ADD, SUB, MUL and DIV (43_set_arith.md). A meaning says what each of the eleven stages does to the
instruction in its latch, the operands being the slot's; the stage is the one at the cursor. -/

namespace Sys2Proof.Machine

/-- `sdiv(a, b)` of 43_set_arith.md R139 and R143: the exact quotient of the signed readings rounded toward zero (PRESUMED:
the spec marks the direction as general knowledge, log entry 13); a zero divisor
raises DIV_ZERO; `-2^31 / -1` gives `-2^31`. -/
def divWords (a b : Word) : Except FaultCause Word :=
  if b = 0 then .error .divZero
  else if a = 0x80000000 ∧ b = 0xFFFFFFFF then .ok 0x80000000
  else .ok (BitVec.ofInt 32 (a.toInt.tdiv b.toInt))

/-- SET (43_set_arith.md R135): IA copies the immediate to `right` (R142), WB writes it. -/
def execSet (d : Byte) (l r : Word) (s : State) : Host.Outcome State Fault Refusal :=
  match s.cursor with
  | .ifetch => .next (admitInstr (.set d l r) s)
  | .ia => .next (passOn (.set d l l) s)
  | .wb => .next (commitResult d r s)
  | .id | .rr | .add | .mul | .div | .br | .mem1 | .mem2 => .next (passOn (.set d l r) s)

/-- ADD (43_set_arith.md R136): RR reads both sources, Add leaves the sum in `right`, WB writes it. -/
def execAdd (d : Byte) (l r : Word) (s : State) : Host.Outcome State Fault Refusal :=
  match s.cursor with
  | .ifetch => .next (admitInstr (.add d l r) s)
  | .rr => .next (orFault (readSources l r s) s fun v => passOn (.add d v.1 v.2) s)
  | .add => .next (passOn (.add d l (l + r)) s)
  | .wb => .next (commitResult d r s)
  | .id | .ia | .mul | .div | .br | .mem1 | .mem2 => .next (passOn (.add d l r) s)

/-- SUB (43_set_arith.md R137): the Add stage performs it (R141). -/
def execSub (d : Byte) (l r : Word) (s : State) : Host.Outcome State Fault Refusal :=
  match s.cursor with
  | .ifetch => .next (admitInstr (.sub d l r) s)
  | .rr => .next (orFault (readSources l r s) s fun v => passOn (.sub d v.1 v.2) s)
  | .add => .next (passOn (.sub d l (l - r)) s)
  | .wb => .next (commitResult d r s)
  | .id | .ia | .mul | .div | .br | .mem1 | .mem2 => .next (passOn (.sub d l r) s)

/-- MUL (43_set_arith.md R138): the low 32 bits of the product, in the Mul stage. -/
def execMul (d : Byte) (l r : Word) (s : State) : Host.Outcome State Fault Refusal :=
  match s.cursor with
  | .ifetch => .next (admitInstr (.mul d l r) s)
  | .rr => .next (orFault (readSources l r s) s fun v => passOn (.mul d v.1 v.2) s)
  | .mul => .next (passOn (.mul d l (l * r)) s)
  | .wb => .next (commitResult d r s)
  | .id | .ia | .add | .div | .br | .mem1 | .mem2 => .next (passOn (.mul d l r) s)

/-- DIV (43_set_arith.md R139): the Div stage divides or raises DIV_ZERO. -/
def execDiv (d : Byte) (l r : Word) (s : State) : Host.Outcome State Fault Refusal :=
  match s.cursor with
  | .ifetch => .next (admitInstr (.div d l r) s)
  | .rr => .next (orFault (readSources l r s) s fun v => passOn (.div d v.1 v.2) s)
  | .div => .next (orFault (divWords l r) s fun q => passOn (.div d l q) s)
  | .wb => .next (commitResult d r s)
  | .id | .ia | .add | .mul | .br | .mem1 | .mem2 => .next (passOn (.div d l r) s)

end Sys2Proof.Machine
end

