-- ==== Sys2Proof/Machine/Dispatch.lean ====
section
/-! DEFINITION. `exec i s`: the action of the stage at the cursor of `s` on the instruction `i` in that stage's latch (at IF, on
the instruction just fetched), and the transfer to the next latch (40_pipeline_cycle.md R91, R92, R96). -/

namespace Sys2Proof.Machine

def exec (i : Instr) (s : State) : Host.Outcome State Fault Refusal :=
  match i with
  | .set d l r => Sys2Proof.Machine.execSet d l r s
  | .add d l r => Sys2Proof.Machine.execAdd d l r s
  | .sub d l r => Sys2Proof.Machine.execSub d l r s
  | .mul d l r => Sys2Proof.Machine.execMul d l r s
  | .div d l r => Sys2Proof.Machine.execDiv d l r s
  | .ld d l r => Sys2Proof.Machine.execLd d l r s
  | .st d l r => Sys2Proof.Machine.execSt d l r s
  | .bez d l r => Sys2Proof.Machine.execBez d l r s
  | .bgez d l r => Sys2Proof.Machine.execBgez d l r s
  | .blez d l r => Sys2Proof.Machine.execBlez d l r s
  | .bgtz d l r => Sys2Proof.Machine.execBgtz d l r s
  | .bltz d l r => Sys2Proof.Machine.execBltz d l r s
  | .ret d l r => Sys2Proof.Machine.execRet d l r s

end Sys2Proof.Machine
end

