-- ==== Sys2Proof/Machine/Pipeline.lean ====
section
/-! DEFINITION. The cycle step (40_pipeline_cycle.md R91): the traversal of the stages in reverse pipeline order, the fetch, the
counters, the abandoning of a step that raised a fault, and the two conditions under which the core takes no step (R90, R100). -/

namespace Sys2Proof.Machine

/-- Go on after an outcome, unless it stopped or a fault was raised in it (60_exceptions.md R183: the first fault of the traversal is
the one recorded, R182). -/
def thenUnlessHalted (o : Host.Outcome State Fault Refusal) (go : State → Host.Outcome State Fault Refusal) :
    Host.Outcome State Fault Refusal :=
  match o with
  | .next t => if t.halted then .next t else go t
  | .fault f => .fault f
  | .refused r => .refused r

/-- One of the lines 1 to 10 of R91: the action of a stage on the slot in its latch, and the transfer. A slot that is not valid moves
unchanged and has no other effect (R93; DEDUCED for a bubble that is not EMPTY, log entry 12). -/
def runStage (st : Stage) (s : State) : Host.Outcome State Fault Refusal :=
  let t := s.setCursor st
  let sl := t.slotAt st
  if sl.valid then
    match sl.fields.instr? with
    | some i => exec i t
    | none => .next (illegalStage sl.fields t)
  else .next (deliver sl t)

/-- The order of the lines 1 to 10 of R91. -/
def backEndOrder : List Stage := [.wb, .mem2, .mem1, .br, .div, .mul, .add, .rr, .ia, .id]

/-- Stages one after the other, each seeing every effect of those before it (R91). -/
def runStages : List Stage → State → Host.Outcome State Fault Refusal
  | [], s => .next s
  | st :: rest, s => thenUnlessHalted (runStage st s) (runStages rest)

/-- The first half of line 11: `L.ID <- L.IF ; L.IF <- EMPTY`, with no action on the instruction (41_fetch_hazard.md R111). -/
def advanceIF (s : State) : State :=
  ((s.setLatch .id (s.slotAt .ifetch)).setLatch .ifetch .empty).setCursor .ifetch

/-- The word at `pc` (41_fetch_hazard.md R114). -/
def fetchWord (s : State) : Word := readCell s.mem (fetchIndex s.pc)

/-- The second half of line 11, `fetch()` (41_fetch_hazard.md R110): the occupied check, which the first half makes void (R112, log entry 18), fetch
exhausted (R113), then the word at `pc` decoded and handed to its instruction; a word with an opcode outside the set is admitted
without any check (30_encoding.md R75). -/
def fetchStage (s : State) : Host.Outcome State Fault Refusal :=
  if (s.slotAt .ifetch).valid then .next s.addStall
  else if s.fetchExhausted then .next s
  else
    match decode (fetchWord s) with
    | .ok i => exec i s
    | .error _ => .next (illegalStage (decodeFields (fetchWord s)) s)

/-- Lines 1 to 11 of R91. -/
def traversal (s : State) : Host.Outcome State Fault Refusal :=
  thenUnlessHalted (runStages backEndOrder s) fun t => fetchStage (advanceIF t)

/-- The end of a step: a traversal in which a fault was raised is abandoned (60_exceptions.md R183), any other is a completed cycle
(line 12 of R91; `STALLS` has its increment from the fetch). -/
def endCycle (before after : State) : State :=
  if after.halted then abandon before after else after.addCycle

/-- One step of the core (40_pipeline_cycle.md R90, R91, R100). PROG_LEN above 65536 is refused (10_state.md R24). A core in which
FAULT is recorded takes no step (60_exceptions.md R184), and here says so by a fault. A core that is DONE takes no step and holds all
state (R100, log entry 4). -/
def cycle (s : State) : Host.Outcome State Fault Refusal :=
  if Config.memWords < s.progLen then .refused .programTooLong
  else
    match s.fault.cause with
    | some c => .fault (.halted c)
    | none =>
      if s.done then .next s
      else
        match traversal s with
        | .next t => .next (endCycle s t)
        | .fault f => .fault f
        | .refused r => .refused r

/-- Whether the fetch that is about to happen stalls (41_fetch_hazard.md R120). -/
def fetchStalls (s : State) : Bool :=
  !s.fetchExhausted &&
    match decode (fetchWord s) with
    | .ok (.ld _ l _) => hazard l s
    | .ok (.st _ l _) => hazard l s
    | _ => false

/-- The `stall` output of the cycle that starts in `s` (41_fetch_hazard.md R120, 70_reset_and_hazards.md R211): 1 iff the cycle
completes and its fetch stalls. It is a signal, not state (10_state.md R34). -/
def cycleStall (s : State) : Bool :=
  match runStages backEndOrder s with
  | .next t => !t.halted && fetchStalls (advanceIF t)
  | _ => false

/-- The `pc` the fetch of the next step reads, after a branch in BR has had its say (10_state.md R22). -/
def fetchPc (s : State) : Word :=
  match runStages backEndOrder s with
  | .next t => t.pc
  | _ => s.pc

/-- The word placed where the next step fetches, and PROG_LEN raised if need be so that fetch is not exhausted there. -/
def placeFetchWord (w : Word) (s : State) : State :=
  let i := fetchIndex (fetchPc s)
  if i < Config.memWords then { s with mem := writeCell s.mem i w, progLen := max s.progLen (i + 1) } else s

end Sys2Proof.Machine
end

