-- ==== Sys2Proof/Machine/Step.lean ====
section
/-! DEFINITION. The step function, and the placing of an instruction where it fetches. -/

namespace Sys2Proof.Machine

/-- One step is one cycle (40_pipeline_cycle.md R90). -/
def step (s : State) : Host.Outcome State Fault Refusal := cycle s

/-- The instruction with the bits `w` (numbered as spec/opcode_table.json numbers them) stored in the cell the next step fetches; it
stands for the host's load (log entry 8). -/
def State.withFetchWord (s : State) (nbits w : Nat) : State := placeFetchWord (BitVec.ofNat 32 (w % 2 ^ nbits)) s

end Sys2Proof.Machine
end

