-- ==== Sys2Proof/Machine/Clocked.lean ====
section
/-! DEFINITION. One cycle read as eleven simultaneously clocked registers (40_pipeline_cycle.md R94), by opcode number, from the
contents of the latches at the start of the cycle. It is not the machine: the machine is the traversal of Machine/Pipeline.lean. The
statements compare the two. -/

namespace Sys2Proof.Machine

/-- ADD, SUB, MUL, DIV (30_encoding.md R74). -/
def isArith (op : Byte) : Bool := decide (1 ≤ op.toNat ∧ op.toNat ≤ 4)

/-- The five branches (30_encoding.md R74). -/
def isBranch (op : Byte) : Bool := decide (7 ≤ op.toNat ∧ op.toNat ≤ 11)

/-- SET, the arithmetic class and LD (30_encoding.md R74). -/
def writesReg (op : Byte) : Bool := decide (op.toNat ≤ 5)

/-- LD and ST (30_encoding.md R74). -/
def isMemory (op : Byte) : Bool := decide (op.toNat = 5 ∨ op.toNat = 6)

/-- The condition of a branch opcode on the tested value (45_branches.md R161 to R165); false for any other opcode. -/
def branchTaken (op : Byte) (v : Word) : Bool :=
  match op.toNat with
  | 7 => condEZ v
  | 8 => condGEZ v
  | 9 => condLEZ v
  | 10 => condGTZ v
  | 11 => condLTZ v
  | _ => false

/-- A register's value by an in-range index, 0 by any other (the callers rule that out by `faultOf`). -/
def regAt (x : Vector Word 16) (i : Nat) : Word := if h : i < 16 then x[i] else 0

/-- A slot's ID action (46_ret_illegal.md R176). -/
def actID (sl : Slot) : Slot := if sl.valid && decide (12 < sl.opcode.toNat) then .empty else sl

/-- A slot's IA action (43_set_arith.md R142). -/
def actIA (sl : Slot) : Slot := if sl.valid && decide (sl.opcode = 0) then { sl with right := sl.left } else sl

/-- A slot's RR action, on the registers after this cycle's WB (43_set_arith.md R140, 45_branches.md R160). -/
def actRR (x : Vector Word 16) (sl : Slot) : Slot :=
  if sl.valid && isArith sl.opcode then { sl with left := regAt x sl.left.toNat, right := regAt x sl.right.toNat }
  else if sl.valid && isBranch sl.opcode then { sl with right := regAt x sl.dest.toNat }
  else sl

/-- A slot's Add action (43_set_arith.md R136, R137). -/
def actAdd (sl : Slot) : Slot :=
  if sl.valid && decide (sl.opcode = 1) then { sl with right := sl.left + sl.right }
  else if sl.valid && decide (sl.opcode = 2) then { sl with right := sl.left - sl.right }
  else sl

/-- A slot's Mul action (43_set_arith.md R138). -/
def actMul (sl : Slot) : Slot := if sl.valid && decide (sl.opcode = 3) then { sl with right := sl.left * sl.right } else sl

/-- A slot's Div action with a divisor that is not 0 (43_set_arith.md R139): core Lean's signed division, which rounds toward zero. -/
def actDiv (sl : Slot) : Slot := if sl.valid && decide (sl.opcode = 4) then { sl with right := sl.left.sdiv sl.right } else sl

/-- A slot's Mem2 action, on the memory before this cycle's ST (44_load_store.md R151, 20_memory.md R57). -/
def actMem2 (m : Memory) (sl : Slot) : Slot :=
  if sl.valid && decide (sl.opcode = 5) then { sl with right := readCell m sl.right.toNat } else sl

/-- The fault condition of a stage on the slot in its own latch (60_exceptions.md R181). -/
def faultIn (st : Stage) (sl : Slot) : Option FaultCause :=
  match st with
  | .wb => if sl.valid && writesReg sl.opcode && decide (15 < sl.dest.toNat) then some .regIndex else none
  | .mem2 => if sl.valid && decide (sl.opcode = 5) && decide (65535 < sl.right.toNat) then some .memIndex else none
  | .mem1 => if sl.valid && decide (sl.opcode = 6) && decide (65535 < sl.left.toNat) then some .memIndex else none
  | .div => if sl.valid && decide (sl.opcode = 4) && decide (sl.right = 0) then some .divZero else none
  | .rr =>
    if sl.valid && isArith sl.opcode && !decide ((0 ≤ sl.left.toInt ∧ sl.left.toInt ≤ 15) ∧ (0 ≤ sl.right.toInt ∧ sl.right.toInt ≤ 15))
    then some .regIndex
    else if sl.valid && isBranch sl.opcode && decide (15 < sl.dest.toNat) then some .regIndex else none
  | .ifetch | .id | .ia | .add | .mul | .br => none

/-- The record a fault in a stage leaves (60_exceptions.md R181). -/
def faultRecordIn (st : Stage) (s : State) : Option FaultRecord :=
  (faultIn st (s.slotAt st)).map fun c => ⟨some c, st, (s.slotAt st).fpc⟩

/-- The fault a cycle records: the first one in the order WB, Mem2, Mem1, Div, RR (60_exceptions.md R182). -/
def faultOf (s : State) : Option FaultRecord :=
  [Stage.wb, .mem2, .mem1, .div, .rr].findSome? fun st => faultRecordIn st s

/-- The registers after this cycle's WB (40_pipeline_cycle.md R98). -/
def clockedRegs (s : State) : Vector Word 16 :=
  let sl := s.latches.wb
  if h : sl.dest.toNat < 16 then if sl.valid && writesReg sl.opcode then s.regs.set sl.dest.toNat sl.right else s.regs else s.regs

/-- The memory after this cycle's Mem1 (44_load_store.md R152). -/
def clockedMem (s : State) : Memory :=
  let sl := s.latches.mem1
  if sl.valid && decide (sl.opcode = 6) then writeCell s.mem sl.left.toNat sl.right else s.mem

/-- `pc` and the predictor after this cycle's BR (45_branches.md R160), the rest of the state as it was. -/
def clockedBranch (s : State) : State :=
  let sl := s.latches.br
  if sl.valid && isBranch sl.opcode then
    let c := branchTaken sl.opcode sl.right
    let t := if c then s.setPc sl.left else s
    if s.predUpdate then predUpdateAt sl.fpc c sl.left t else t
  else s

/-- All of a cycle but its fetch: every latch loaded from the stage before it, from the contents at the start of the cycle. -/
def clockedBackEnd (s : State) : State :=
  let L := s.latches
  let drops := L.id.valid && decide (12 < L.id.opcode.toNat)
  { clockedBranch s with
    regs := clockedRegs s
    mem := clockedMem s
    latches :=
      { ifetch := .empty
        id := L.ifetch
        ia := actID L.id
        rr := actIA L.ia
        add := actRR (clockedRegs s) L.rr
        mul := actAdd L.add
        div := actMul L.mul
        br := actDiv L.div
        mem1 := L.br
        mem2 := L.mem1
        wb := actMem2 s.mem L.mem2 }
    cycles := s.cycles + 1
    commits := if L.wb.valid then s.commits + 1 else s.commits
    illegal := drops || s.illegal
    illegalCount := if drops then s.illegalCount + 1 else s.illegalCount
    cursor := .ifetch }

/-- The fetch of a cycle, on the state the other ten stages leave (41_fetch_hazard.md R110). -/
def clockedFetch (t : State) : State :=
  if 4 * t.progLen ≤ t.pc.toNat then t
  else
    let f := decodeFields (readCell t.mem (t.pc.toNat / 4))
    let sl : Slot := ⟨true, f.opcode, f.dest, f.left, f.right, t.pc⟩
    if isBranch f.opcode then { t with latches := { t.latches with ifetch := sl }, pc := (predict t.pc t).2 }
    else if isMemory f.opcode && t.latches.rr.valid && decide (f.left = t.latches.rr.dest.setWidth 32) then
      { t with stalls := t.stalls + 1 }
    else { t with latches := { t.latches with ifetch := sl }, pc := t.pc + 4 }

/-- A whole cycle in which nothing faults. -/
def clocked (s : State) : State := clockedFetch (clockedBackEnd s)

end Sys2Proof.Machine
end

