-- ==== Sys2Proof/Safety.lean ====
section
/-! DEFINITION. What counts as a safe run, and the invariants and premises the statements are written in. -/

namespace Sys2Proof.Machine

/-- The state of a run in which nothing has gone wrong: no fault is recorded and no instruction was dropped (60_exceptions.md R184,
R187). -/
abbrev State.Safe (s : State) : Prop := s.halted = false ∧ s.illegal = false

/-- The core takes a step: PROG_LEN is legal and neither HALTED nor DONE holds (40_pipeline_cycle.md R90). -/
abbrev State.Running (s : State) : Prop := s.progLen ≤ 65536 ∧ s.halted = false ∧ s.done = false

/-- The step completes: the core takes it, and no fault is raised in it. -/
abbrev Completes (s t : State) : Prop := s.Running ∧ step s = .next t ∧ t.halted = false

/-- Every bubble is stored as EMPTY (10_state.md R25). -/
abbrev BubblesEmpty (s : State) : Prop := ∀ st ∈ Stage.all, (s.slotAt st).valid = false → s.slotAt st = .empty

/-- From IA on, a valid slot has an opcode in 0..12 (40_pipeline_cycle.md R97). -/
abbrev LegalPastID (s : State) : Prop :=
  ∀ st ∈ [Stage.ia, .rr, .add, .mul, .div, .br, .mem1, .mem2, .wb], (s.slotAt st).valid = true → (s.slotAt st).opcode.toNat ≤ 12

/-- ILLEGAL is set exactly when something was counted (10_state.md R30). -/
abbrev IllegalAgrees (s : State) : Prop := s.illegal = decide (0 < s.illegalCount)

/-- With PRED_UPDATE false the tables hold their reset value (10_state.md R27). -/
abbrev PredictorIdle (s : State) : Prop :=
  s.predUpdate = false → s.pt = Vector.replicate 16 0 ∧ s.btb = Vector.replicate 16 0

/-- FAULT is clear, or holds a cause with a stage that detects it (60_exceptions.md R181), and the faulting instruction is still in that
stage's latch (R183). -/
abbrev FaultLegal (s : State) : Prop :=
  match s.fault.cause with
  | none => s.fault = .clear
  | some c =>
    (match c with
      | .divZero => s.fault.stage ∈ [Stage.div]
      | .regIndex => s.fault.stage ∈ [Stage.rr, .wb]
      | .memIndex => s.fault.stage ∈ [Stage.mem1, .mem2]) ∧
    (s.slotAt s.fault.stage).valid = true ∧ (s.slotAt s.fault.stage).fpc = s.fault.fpc

/-- The invariant of a run. -/
abbrev Inv (s : State) : Prop :=
  s.mem.wf = true ∧ s.progLen ≤ 65536 ∧ s.cursor = .ifetch ∧ BubblesEmpty s ∧ LegalPastID s ∧ IllegalAgrees s ∧ PredictorIdle s ∧
    FaultLegal s

/-- The number of valid slots. -/
def inFlight (s : State) : Nat := (Stage.all.filter fun st => (s.slotAt st).valid).length

/-- The instructions committed, dropped and in flight and the stalls together are no more than the cycles: a cycle admits at most one and
then does not stall (41_fetch_hazard.md R120). -/
abbrev AdmissionsAccounted (s : State) : Prop := s.commits + s.illegalCount + inFlight s + s.stalls ≤ s.cycles

/-- Every ST on its way to Mem1 still has the operands its word encodes (44_load_store.md R150). -/
abbrev LiteralStores (s : State) : Prop :=
  ∀ st ∈ [Stage.ifetch, .id, .ia, .rr, .add, .mul, .div, .br, .mem1],
    (s.slotAt st).valid = true → (s.slotAt st).opcode = 6 → FitsByte (s.slotAt st).left ∧ FitsByte (s.slotAt st).right

/-- The core is about to fetch `i`, alone: nothing is in flight, the word at `pc` decodes to `i`, and the word after it is past the
sentinel. -/
abbrev Lone (i : Instr) (s : State) : Prop :=
  s.progLen ≤ 65536 ∧ s.fault = .clear ∧ s.latches = .empty ∧ s.cursor = .ifetch ∧ s.pc.toNat < 4 * s.progLen ∧
    4 * s.progLen ≤ s.pc.toNat + 4 ∧ decode (fetchWord s) = .ok i

/-- `n` steps of the machine, stopping at the first fault or refusal. -/
abbrev runSteps (n : Nat) (s : State) : Host.Outcome State Fault Refusal := Host.Core.run Sys2Proof.core n s

/-- The slot of an instruction in flight, with opcode number `op`, that leaves the stage at the cursor for the stage `n`. -/
abbrev movesTo (n : Stage) (op d : Byte) (l r : Word) (s : State) : State :=
  s.setLatch n ⟨true, op, d, l, r, (s.slotAt s.cursor).fpc⟩

/-- Admission without a check (41_fetch_hazard.md R119). -/
abbrev admits (op d : Byte) (l r : Word) (s : State) : State :=
  { s with latches := s.latches.set .ifetch ⟨true, op, d, l, r, s.pc⟩, pc := s.pc + 4 }

/-- The fault of the stage at the cursor, recorded (60_exceptions.md R181). -/
abbrev recordsFault (c : FaultCause) (s : State) : State :=
  { s with fault := ⟨some c, s.cursor, (s.slotAt s.cursor).fpc⟩ }

/-- WB of a register-writing instruction with opcode number at most 5 (40_pipeline_cycle.md R98): the register and the commit, or the
fault of a destination above 15. -/
abbrev WritesBack (i : Instr) (d : Byte) (v : Word) (s : State) : Prop :=
  s.cursor = .wb →
    (∀ h : d.toNat < 16, exec i s = .next { s with regs := s.regs.set d.toNat v, commits := s.commits + 1 }) ∧
    (16 ≤ d.toNat → exec i s = .next (recordsFault .regIndex s))

/-- In every stage but those of the list (WB among the others has no next stage) the instruction moves on as it is
(40_pipeline_cycle.md R96). -/
abbrev MovesUnchanged (i : Instr) (op d : Byte) (l r : Word) (s : State) (acting : List Stage) : Prop :=
  ∀ n, s.cursor.next? = some n → s.cursor ∉ acting → exec i s = .next (movesTo n op d l r s)

/-- RR of an arithmetic instruction (43_set_arith.md R140): both registers read, or the fault of an index outside 0..15. -/
abbrev ReadsSources (i : Instr) (op d : Byte) (l r : Word) (s : State) : Prop :=
  s.cursor = .rr →
    (∀ (ha : l.toNat < 16) (hb : r.toNat < 16), exec i s = .next (movesTo .add op d s.regs[l.toNat] s.regs[r.toNat] s)) ∧
    (¬((0 ≤ l.toInt ∧ l.toInt ≤ 15) ∧ (0 ≤ r.toInt ∧ r.toInt ≤ 15)) → exec i s = .next (recordsFault .regIndex s))

/-- Everything ADD, SUB or MUL does, stage by stage, with the execute stage `st` and the function `f` it computes. -/
abbrev ArithStages (mk : Byte → Word → Word → Instr) (op : Byte) (st : Stage) (f : Word → Word → Word) : Prop :=
  ∀ (d : Byte) (l r : Word) (s : State),
    (s.cursor = .ifetch → exec (mk d l r) s = .next (admits op d l r s)) ∧
    ReadsSources (mk d l r) op d l r s ∧
    (∀ n, s.cursor = st → st.next? = some n → exec (mk d l r) s = .next (movesTo n op d l (f l r) s)) ∧
    WritesBack (mk d l r) d r s ∧
    MovesUnchanged (mk d l r) op d l r s [.ifetch, .rr, st]

/-- Everything a branch does, stage by stage, with its condition `c` (45_branches.md R160). -/
abbrev BranchStages (mk : Byte → Word → Word → Instr) (op : Byte) (c : Word → Prop) : Prop :=
  ∀ (d : Byte) (l r : Word) (s : State),
    (s.cursor = .ifetch → exec (mk d l r) s =
      .next { s with latches := s.latches.set .ifetch ⟨true, op, d, l, r, s.pc⟩, pc := (predict s.pc s).2 }) ∧
    (s.cursor = .rr →
      (∀ h : d.toNat < 16, exec (mk d l r) s = .next (movesTo .add op d l s.regs[d.toNat] s)) ∧
      (16 ≤ d.toNat → exec (mk d l r) s = .next (recordsFault .regIndex s))) ∧
    (s.cursor = .br →
      (c r → s.predUpdate = false → exec (mk d l r) s = .next { movesTo .mem1 op d l r s with pc := l }) ∧
      (¬ c r → s.predUpdate = false → exec (mk d l r) s = .next (movesTo .mem1 op d l r s)) ∧
      (c r → s.predUpdate = true → exec (mk d l r) s =
        .next (movesTo .mem1 op d l r (predUpdateAt s.latches.br.fpc true l { s with pc := l }))) ∧
      (¬ c r → s.predUpdate = true → exec (mk d l r) s =
        .next (movesTo .mem1 op d l r (predUpdateAt s.latches.br.fpc false l s)))) ∧
    (s.cursor = .wb → exec (mk d l r) s = .next { s with commits := s.commits + 1 }) ∧
    MovesUnchanged (mk d l r) op d l r s [.ifetch, .rr, .br]

/-- IF of a LD or ST (41_fetch_hazard.md R117 to R119). -/
abbrev StallsOrAdmits (i : Instr) (op d : Byte) (l r : Word) (s : State) : Prop :=
  s.cursor = .ifetch →
    ((s.latches.rr.valid = true ∧ l = s.latches.rr.dest.setWidth 32) → exec i s = .next { s with stalls := s.stalls + 1 }) ∧
    (¬(s.latches.rr.valid = true ∧ l = s.latches.rr.dest.setWidth 32) → exec i s = .next (admits op d l r s))

/-- What no instruction ever changes, in any stage: what the host supplies and what only other units write. -/
abbrev HostAndReportsKept (s t : State) : Prop :=
  t.progLen = s.progLen ∧ t.predUpdate = s.predUpdate ∧ t.cursor = s.cursor ∧ t.cycles = s.cycles ∧ t.illegal = s.illegal ∧
    t.illegalCount = s.illegalCount

/-- FAULT is unchanged, or a fault was taken and nothing else changed. -/
abbrev FaultOrKept (s t : State) : Prop := t.fault = s.fault ∨ t = recordsFault .divZero s ∨ t = recordsFault .regIndex s ∨
  t = recordsFault .memIndex s

/-- Every latch but `n` is unchanged. -/
abbrev LatchesKeptBut (n : Option Stage) (s t : State) : Prop := ∀ st, n ≠ some st → t.slotAt st = s.slotAt st

/-- The latch the stage at the cursor fills: IF its own, the others the next one's, WB none. -/
abbrev filledLatch (s : State) : Option Stage := if s.cursor = .ifetch then some .ifetch else s.cursor.next?

/-- The `pc` this cycle's fetch sees: after BR, from the contents at the start of the cycle (45_branches.md R160). -/
abbrev pcAtFetch (s : State) : Word :=
  if s.latches.br.valid && branchTaken s.latches.br.opcode s.latches.br.right then s.latches.br.left else s.pc

/-- A run of `n` steps in which nothing faulted. -/
abbrev RunsTo (n : Nat) (s t : State) : Prop := runSteps n s = .next t ∧ t.halted = false

/-- A LONE branch in full: admitted, predicted past the sentinel, resolved past it (45_branches.md R160). -/
abbrev BranchAlone (mk : Byte → Word → Word → Instr) (c : Word → Bool) : Prop :=
  ∀ (d : Byte) (l r : Word) (s : State) (h : d.toNat < 16), Lone (mk d l r) s →
    4 * s.progLen ≤ (predict s.pc s).2.toNat → (c s.regs[d.toNat] = true → 4 * s.progLen ≤ l.toNat) →
    runSteps 12 s = .next
      (let t := { s with
          pc := if c s.regs[d.toNat] then l else (predict s.pc s).2
          cycles := s.cycles + 12
          commits := s.commits + 1 }
       if s.predUpdate then predUpdateAt s.pc (c s.regs[d.toNat]) l t else t)

/-- A LONE register-writing instruction in full: after 12 cycles the destination holds `v`, the instruction is committed, and nothing
else has changed but `pc` and CYCLES. -/
abbrev WritesAlone (d : Byte) (v : Word) (s : State) : Prop :=
  ∀ h : d.toNat < 16, runSteps 12 s = .next
    { s with regs := s.regs.set d.toNat v, pc := s.pc + 4, cycles := s.cycles + 12, commits := s.commits + 1 }

end Sys2Proof.Machine
end

