-- ==== Sys2Proof/Certificates/Slice0/Obligations.lean ====
section
/-! DEFINITION. The statements for the provers. A docstring names the rule or the section of spec/ a statement formalises. Where the
spec marks that rule as its own decision or derivation, or where the statement rests on a choice of the model, the docstring says so. -/

open Sys2Proof Sys2Proof.Machine

/-! ### Encoding -/

/-- 30_encoding.md R73: on records whose fields fit, `encode` packs the four fields and is undone by `decode`; and every word is the
encoding of what it decodes to. -/
def Obligations.EncodeInvertsDecode : Prop :=
  (∀ f : Fields, f.Encodable →
    encodeFields f = f.opcode ++ f.dest ++ f.left.extractLsb' 0 8 ++ f.right.extractLsb' 0 8 ∧ decodeFields (encodeFields f) = f) ∧
  (∀ w : Word, encodeFields (decodeFields w) = w)

/-- 30_encoding.md sections 2 and 3, for all thirteen instructions: the word of a well-formed instruction decodes to it, and a word that
decodes to an instruction is that instruction's word and the instruction is well-formed. -/
def Obligations.EveryInstructionRoundTrips : Prop :=
  (∀ i : Instr, i.WellFormed → decode (encode i) = .ok i) ∧
  (∀ (w : Word) (i : Instr), decode w = .ok i → i.WellFormed ∧ encode i = w)

/-- 30_encoding.md section 4: the decoder names an instruction exactly for the opcodes 0 to 12 and rejects every other by its number
(the numbers are the spec's decision D5). -/
def Obligations.IllegalOpcodesAreRejectedByNumber : Prop :=
  ∀ w : Word,
    ((w.extractLsb' 24 8).toNat ≤ 12 → ∃ i, decode w = .ok i ∧ i.opcode = w.extractLsb' 24 8) ∧
    (12 < (w.extractLsb' 24 8).toNat → decode w = .error (.illegalOpcode (w.extractLsb' 24 8)))

/-- 30_encoding.md section 6, the eight worked encodings, and 95_test_vectors.md V-DEC-5 to V-DEC-13: the spec's own words decode to the
instructions it says they are. -/
def Obligations.WordsOfTheSpecDecode : Prop :=
  decode 0x00010500 = .ok (.set 1 5 0) ∧ decode 0x00020700 = .ok (.set 2 7 0) ∧ decode 0x0001FD00 = .ok (.set 1 0xFFFFFFFD 0) ∧
  decode 0x01030102 = .ok (.add 3 1 2) ∧ decode 0x02010102 = .ok (.sub 1 1 2) ∧ decode 0x03030102 = .ok (.mul 3 1 2) ∧
  decode 0x04030102 = .ok (.div 3 1 2) ∧ decode 0x05042828 = .ok (.ld 4 40 40) ∧ decode 0x06002863 = .ok (.st 0 40 99) ∧
  decode 0x07014400 = .ok (.bez 1 0x44 0) ∧ decode 0x08021000 = .ok (.bgez 2 0x10 0) ∧ decode 0x09021000 = .ok (.blez 2 0x10 0) ∧
  decode 0x0A012800 = .ok (.bgtz 1 0x28 0) ∧ decode 0x0B032000 = .ok (.bltz 3 0x20 0) ∧ decode 0x0C000000 = .ok (.ret 0 0 0)

/-! ### Memory and registers -/

/-- 20_memory.md section 4 (the fault is the spec's decision D21): `MemRead` and `MemWrite` reach the 65536 cells and no other. A cell
written reads back, every byte outside it keeps its value, and the canonical form of the model's list (log entry 5) is kept. -/
def Obligations.CellWrittenReadsBackAlone : Prop :=
  ∀ (a v : Word) (s : State),
    (a.toNat ≤ 65535 → memRead a s = .ok (readCell s.mem a.toNat) ∧
      ∃ t, memWrite a v s = .ok t ∧ t = { s with mem := t.mem } ∧
        (s.mem.wf = true → readCell t.mem a.toNat = v ∧ t.mem.wf = true) ∧
        (∀ b, b < 4 * a.toNat ∨ 4 * a.toNat + 3 < b → readByte t.mem b = readByte s.mem b) ∧
        (∀ j, j ≠ a.toNat → readCell t.mem j = readCell s.mem j)) ∧
    (65535 < a.toNat → memRead a s = .error .memIndex ∧ memWrite a v s = .error .memIndex)

/-- The canonical form of the MODEL's memory list (log entry 5): two canonical memories in which every byte reads the same are equal. -/
def Obligations.CanonicalMemoriesAreEqualIfReadEqual : Prop :=
  ∀ m m' : Memory, m.wf = true → m'.wf = true → (∀ a, readByte m a = readByte m' a) → m = m'

/-- 43_set_arith.md section 1, integer arithmetic laws: the quotient is that of the signed readings rounded toward zero, but for the one
overflowing case; a zero divisor raises DIV_ZERO (the rounding is the spec's general knowledge, the rest its decision D19). -/
def Obligations.DivisionRoundsTowardZero : Prop :=
  ∀ a b : Word,
    (b = 0 → divWords a b = .error .divZero) ∧
    (b ≠ 0 → ¬(a.toInt = -2147483648 ∧ b.toInt = -1) → ∃ q, divWords a b = .ok q ∧ q.toInt = a.toInt.tdiv b.toInt) ∧
    (a.toInt = -2147483648 → b.toInt = -1 → divWords a b = .ok 0x80000000)

/-! ### The instructions, stage by stage -/

/-- 43_set_arith.md sections 1 and 2: SET in every stage. IA copies `left` to `right`, WB writes the register and counts, a destination
above 15 faults in WB, every other stage moves it on unchanged (the copy is the spec's decision D10). -/
def Obligations.SetInEveryStage : Prop :=
  ∀ (d : Byte) (l r : Word) (s : State),
    (s.cursor = .ifetch → exec (.set d l r) s = .next (admits 0 d l r s)) ∧
    (s.cursor = .ia → exec (.set d l r) s = .next (movesTo .rr 0 d l l s)) ∧
    WritesBack (.set d l r) d r s ∧
    MovesUnchanged (.set d l r) 0 d l r s [.ifetch, .ia]

/-- 43_set_arith.md sections 1, 3, 4 and 5: ADD, SUB and MUL in every stage. RR reads both registers or faults, the Add stage computes
the sum and the difference and the Mul stage the low 32 bits of the product, WB writes (the Add stage for SUB is the spec's decision
D12). -/
def Obligations.AddSubMulInEveryStage : Prop :=
  ArithStages .add 1 .add (fun a b => BitVec.ofInt 32 (a.toInt + b.toInt)) ∧
  ArithStages .sub 2 .add (fun a b => BitVec.ofInt 32 (a.toInt - b.toInt)) ∧
  ArithStages .mul 3 .mul (fun a b => BitVec.ofInt 32 (a.toInt * b.toInt))

/-- 43_set_arith.md sections 1 and 6: DIV in every stage. The Div stage leaves the quotient of the signed readings, or raises DIV_ZERO on
a zero divisor (the spec's decision D19; the rounding, log entry 13). -/
def Obligations.DivInEveryStage : Prop :=
  ∀ (d : Byte) (l r : Word) (s : State),
    (s.cursor = .ifetch → exec (.div d l r) s = .next (admits 4 d l r s)) ∧
    ReadsSources (.div d l r) 4 d l r s ∧
    (s.cursor = .div →
      (r ≠ 0 → exec (.div d l r) s = .next (movesTo .br 4 d l (BitVec.ofInt 32 (l.toInt.tdiv r.toInt)) s)) ∧
      (r = 0 → exec (.div d l r) s = .next (recordsFault .divZero s))) ∧
    WritesBack (.div d l r) d r s ∧
    MovesUnchanged (.div d l r) 4 d l r s [.ifetch, .rr, .div]

/-- 44_load_store.md sections of R150 and R151: LD in every stage. IF stalls it on the hazard, Mem2 loads the cell `right` or faults, WB
writes the register (the operand convention is the spec's decision D13). That `exec` at IF itself counts the stall, where the spec's
`fetch` returns it and line 12 of the step adds it, is the model's choice, log entry 16. -/
def Obligations.LdInEveryStage : Prop :=
  ∀ (d : Byte) (l r : Word) (s : State),
    StallsOrAdmits (.ld d l r) 5 d l r s ∧
    (s.cursor = .mem2 →
      (r.toNat ≤ 65535 → exec (.ld d l r) s = .next (movesTo .wb 5 d l (readCell s.mem r.toNat) s)) ∧
      (65535 < r.toNat → exec (.ld d l r) s = .next (recordsFault .memIndex s))) ∧
    WritesBack (.ld d l r) d r s ∧
    MovesUnchanged (.ld d l r) 5 d l r s [.ifetch, .mem2]

/-- 44_load_store.md sections of R150 and R152: ST in every stage. IF stalls it on the hazard, Mem1 stores `right` to the cell `left` or
faults, WB only counts (the operand convention is the spec's decision D13). That `exec` at IF itself counts the stall, where the spec's
`fetch` returns it and line 12 of the step adds it, is the model's choice, log entry 16. -/
def Obligations.StInEveryStage : Prop :=
  ∀ (d : Byte) (l r : Word) (s : State),
    StallsOrAdmits (.st d l r) 6 d l r s ∧
    (s.cursor = .mem1 →
      (l.toNat ≤ 65535 → exec (.st d l r) s =
        .next { s with mem := writeCell s.mem l.toNat r, latches := s.latches.set .mem2 ⟨true, 6, d, l, r, s.latches.mem1.fpc⟩ }) ∧
      (65535 < l.toNat → exec (.st d l r) s = .next (recordsFault .memIndex s))) ∧
    (s.cursor = .wb → exec (.st d l r) s = .next { s with commits := s.commits + 1 }) ∧
    MovesUnchanged (.st d l r) 6 d l r s [.ifetch, .mem1]

/-- 45_branches.md sections 1 and 2: the five branches in every stage, each with its condition on the signed reading of the value RR
read. BR writes `pc` when the condition holds, nothing to `pc` when it fails, and tells the predictor when PRED_UPDATE is true (where the
value is carried and the absolute target are the spec's decisions D11 and D15). -/
def Obligations.BranchesInEveryStage : Prop :=
  BranchStages .bez 7 (fun v => v.toInt = 0) ∧
  BranchStages .bgez 8 (fun v => 0 ≤ v.toInt) ∧
  BranchStages .blez 9 (fun v => v.toInt ≤ 0) ∧
  BranchStages .bgtz 10 (fun v => 0 < v.toInt) ∧
  BranchStages .bltz 11 (fun v => v.toInt < 0)

/-- 46_ret_illegal.md, RET: admitted, moved on unchanged by every stage, counted by WB, nothing else (the spec's decision D17). -/
def Obligations.RetInEveryStage : Prop :=
  ∀ (d : Byte) (l r : Word) (s : State),
    (s.cursor = .ifetch → exec (.ret d l r) s = .next (admits 12 d l r s)) ∧
    (s.cursor = .wb → exec (.ret d l r) s = .next { s with commits := s.commits + 1 }) ∧
    MovesUnchanged (.ret d l r) 12 d l r s [.ifetch]

/-! ### Frames -/

/-- What SET, ADD, SUB, MUL, DIV and LD leave unchanged in any stage (10_state.md sections 2 to 8): every register but the destination,
and that one too outside WB; every byte of memory; the predictor; `pc` and STALLS outside IF; COMMITS outside WB; every latch but the one
filled; what the host and the other units write. -/
def Obligations.RegisterWritersFrame : Prop :=
  ∀ (i : Instr) (s t : State), i.opcode.toNat ≤ 5 → exec i s = .next t →
    (∀ (k : Nat) (hk : k < 16), s.cursor ≠ .wb ∨ k ≠ i.dest.toNat → t.regs[k] = s.regs[k]) ∧
    (∀ a, readByte t.mem a = readByte s.mem a) ∧ t.pt = s.pt ∧ t.btb = s.btb ∧
    (s.cursor ≠ .ifetch → t.pc = s.pc ∧ t.stalls = s.stalls) ∧ (s.cursor ≠ .wb → t.commits = s.commits) ∧
    LatchesKeptBut (filledLatch s) s t ∧ FaultOrKept s t ∧ HostAndReportsKept s t

/-- What ST leaves unchanged in any stage (10_state.md sections 2 to 8): every register; every byte of memory but the four of the cell
`left`, and those too outside Mem1; the predictor; `pc` and STALLS outside IF; COMMITS outside WB; every latch but the one filled; what the
host and the other units write. -/
def Obligations.StoreFrame : Prop :=
  ∀ (d : Byte) (l r : Word) (s t : State), exec (.st d l r) s = .next t →
    t.regs = s.regs ∧
    (∀ a, s.cursor ≠ .mem1 ∨ a < 4 * l.toNat ∨ 4 * l.toNat + 3 < a → readByte t.mem a = readByte s.mem a) ∧
    t.pt = s.pt ∧ t.btb = s.btb ∧
    (s.cursor ≠ .ifetch → t.pc = s.pc ∧ t.stalls = s.stalls) ∧ (s.cursor ≠ .wb → t.commits = s.commits) ∧
    LatchesKeptBut (filledLatch s) s t ∧ FaultOrKept s t ∧ HostAndReportsKept s t

/-- What the five branches and RET leave unchanged in any stage (10_state.md sections 2 to 8): every register; every byte of memory;
STALLS; `pc` outside IF and BR, for RET outside IF; the predictor but, for a branch in BR with PRED_UPDATE true, the entries of its own
index; COMMITS outside WB; every latch but the one filled; what the host and the other units write. -/
def Obligations.BranchAndRetFrame : Prop :=
  ∀ (i : Instr) (s t : State), 7 ≤ i.opcode.toNat → exec i s = .next t →
    t.regs = s.regs ∧ (∀ a, readByte t.mem a = readByte s.mem a) ∧ t.stalls = s.stalls ∧
    (s.cursor ≠ .ifetch → s.cursor ≠ .br ∨ i.opcode = 12 → t.pc = s.pc) ∧
    (s.cursor ≠ .br ∨ s.predUpdate = false ∨ i.opcode = 12 → t.pt = s.pt ∧ t.btb = s.btb) ∧
    (∀ j : BitVec 4, j ≠ predIndex s.latches.br.fpc → t.ptAt j = s.ptAt j ∧ t.btbAt j = s.btbAt j) ∧
    (s.cursor ≠ .wb → t.commits = s.commits) ∧
    LatchesKeptBut (filledLatch s) s t ∧ FaultOrKept s t ∧ HostAndReportsKept s t

/-! ### The predictor -/

/-- 42_branch_predictor.md R126: the index is the floor of the address by 4, mod 16. -/
def Obligations.PredictorIndexIsWordAddressMod16 : Prop := ∀ a : Word, (predIndex a).toNat = (a.toNat / 4) % 16

/-- 42_branch_predictor.md R127: taken iff the counter is above 1, the target the recorded one if taken and the next word if not; and a
completed step that fetches a branch leaves `pc` at the target it predicts for the branch's own address. -/
def Obligations.PredictionFollowsTheCounter : Prop :=
  (∀ (a : Word) (s : State),
    (1 < (s.ptAt (predIndex a)).toNat → predict a s = (true, s.btbAt (predIndex a))) ∧
    ((s.ptAt (predIndex a)).toNat ≤ 1 → predict a s = (false, a + 4))) ∧
  ∀ s t : State, Completes s t → (pcAtFetch s).toNat < 4 * s.progLen →
    7 ≤ (decodeFields (readCell t.mem ((pcAtFetch s).toNat / 4))).opcode.toNat →
    (decodeFields (readCell t.mem ((pcAtFetch s).toNat / 4))).opcode.toNat ≤ 11 → t.pc = (predict (pcAtFetch s) t).2

/-- 42_branch_predictor.md R128: the counter of the index moves by one toward 3 or 0 and stops there, the target is recorded when taken,
and every other entry and all other state is unchanged; and a completed step changes the tables by just this update, with the fetch
address, the outcome and the target of the valid branch in BR, and only with PRED_UPDATE true. -/
def Obligations.UpdateSaturatesOneEntry : Prop :=
  (∀ (a target : Word) (s : State) (j : BitVec 4),
    ((predUpdateAt a true target s).ptAt j).toNat =
      (if j = predIndex a then min ((s.ptAt j).toNat + 1) 3 else (s.ptAt j).toNat) ∧
    ((predUpdateAt a false target s).ptAt j).toNat = (if j = predIndex a then (s.ptAt j).toNat - 1 else (s.ptAt j).toNat) ∧
    (predUpdateAt a true target s).btbAt j = (if j = predIndex a then target else s.btbAt j) ∧
    (predUpdateAt a false target s).btbAt j = s.btbAt j ∧
    ∀ c : Bool, predUpdateAt a c target s =
      { s with pt := (predUpdateAt a c target s).pt, btb := (predUpdateAt a c target s).btb }) ∧
  ∀ s t : State, Completes s t →
    (t.pt, t.btb) =
      if s.predUpdate = true ∧ s.latches.br.valid = true ∧ 7 ≤ s.latches.br.opcode.toNat ∧ s.latches.br.opcode.toNat ≤ 11 then
        ((predUpdateAt s.latches.br.fpc (branchTaken s.latches.br.opcode s.latches.br.right) s.latches.br.left s).pt,
          (predUpdateAt s.latches.br.fpc (branchTaken s.latches.br.opcode s.latches.br.right) s.latches.br.left s).btb)
      else (s.pt, s.btb)

/-- 42_branch_predictor.md R130: two branches whose addresses differ by a multiple of 64 bytes share one counter and one target, both to
predict and to update. -/
def Obligations.AliasedBranchesShareOneEntry : Prop :=
  ∀ (a b : Word) (s : State), a.toNat % 64 = b.toNat % 64 →
    predIndex a = predIndex b ∧ (predict a s).1 = (predict b s).1 ∧
    ((predict a s).1 = true → (predict a s).2 = (predict b s).2) ∧
    ∀ (c : Bool) (t : Word), predUpdateAt a c t s = predUpdateAt b c t s

/-! ### Reset and the signals -/

/-- 10_state.md section 11, the reset table, for every INIT_MEM, PROG_LEN and PRED_UPDATE (all but the registers and `pt` is the spec's
decision D22). -/
def Obligations.ResetTable : Prop :=
  ∀ (image : Memory) (n : Nat) (u : Bool),
    let s := State.boot image n u
    (∀ (k : Nat) (hk : k < 16), s.regs[k] = 0 ∧ s.pt[k] = 0 ∧ s.btb[k] = 0) ∧ s.pc = 0 ∧ s.mem = image ∧ s.progLen = n ∧
    (∀ st : Stage, s.slotAt st = ⟨false, 0, 0, 0, 0, 0⟩) ∧
    s.cycles = 0 ∧ s.stalls = 0 ∧ s.commits = 0 ∧ s.illegalCount = 0 ∧ s.illegal = false ∧ s.fault.code = 0 ∧
    s.fault.stage.number = 0 ∧ s.fault.fpc = 0

/-- 70_reset_and_hazards.md section 1 and 60_exceptions.md section 3: reset writes neither Mem nor PROG_LEN, leaves everything else as at
the start of a run on them, and clears FAULT (the spec's decisions D20 and D22). That reset is a function beside the step and keeps the
parameter PRED_UPDATE is deduced, log entry 17. -/
def Obligations.ResetKeepsMemoryAndLength : Prop :=
  ∀ s : State, applyReset s = State.boot s.mem s.progLen s.predUpdate ∧ (applyReset s).halted = false ∧
    (applyReset s).mem = s.mem ∧ (applyReset s).progLen = s.progLen

/-- 10_state.md R35: the four signals, and that the core takes a step (here: CYCLES moves or a fault is recorded) iff neither DONE nor
HALTED holds. -/
def Obligations.SignalsAndWhenTheCoreSteps : Prop :=
  ∀ s : State,
    (s.pipelineEmpty = true ↔ ∀ st : Stage, (s.slotAt st).valid = false) ∧
    (s.fetchExhausted = true ↔ 4 * s.progLen ≤ s.pc.toNat) ∧
    (s.done = true ↔ s.fetchExhausted = true ∧ s.pipelineEmpty = true) ∧
    (s.halted = true ↔ s.fault.code ≠ 0) ∧
    (s.progLen ≤ 65536 →
      ((∃ t, step s = .next t ∧ (t.cycles = s.cycles + 1 ∨ t.halted = true)) ↔ s.done = false ∧ s.halted = false))

/-! ### The step -/

/-- A STEP RUNS THE INSTRUCTION IT FETCHES (40_pipeline_cycle.md section 2, 41_fetch_hazard.md section 1). When the ten older stages have
acted without a fault and the word at `pc` decodes to `i`, the step is `exec i` at the state they left, with CYCLES counted. -/
def Obligations.StepRunsTheFetchedInstruction : Prop :=
  ∀ (s t : State) (i : Instr), s.Running → runStages backEndOrder s = .next t → t.halted = false →
    (advanceIF t).fetchExhausted = false → decode (fetchWord (advanceIF t)) = .ok i →
    i.WellFormed ∧ ∃ u, exec i (advanceIF t) = .next u ∧ step s = .next { u with cycles := u.cycles + 1 }

/-- The same in a machine with nothing in flight, as after reset: the step is `exec i` at that very state, with CYCLES counted. -/
def Obligations.DrainedStepRunsTheWordAtPc : Prop :=
  ∀ (s : State) (i : Instr), s.Running → s.latches = .empty → s.cursor = .ifetch → decode (fetchWord s) = .ok i →
    ∃ u, exec i s = .next u ∧ step s = .next { u with cycles := u.cycles + 1 }

/-- 40_pipeline_cycle.md section 2 (the spec's derived rule R94): a step in which nothing faults is the simultaneous clocking of all
eleven registers, with the order of effects inside the cycle. DIV's rounding toward zero is presumed, log entry 13; STALLS is counted at
the fetch, log entry 16. -/
def Obligations.StepIsElevenClockedRegisters : Prop :=
  ∀ s : State, s.Running → faultOf s = none → step s = .next (clocked s)

/-- 60_exceptions.md section 3 (the spec's decision D20): when any stage meets a fault condition, the step records the first one in the
order WB, Mem2, Mem1, Div, RR and changes nothing else. That this entry is a next state is the model's choice, log entry 3. -/
def Obligations.OldestFaultIsRecordedAlone : Prop :=
  ∀ (s : State) (f : FaultRecord), s.Running → faultOf s = some f → step s = .next { s with fault := f }

/-- 60_exceptions.md section 3 (the spec's decision D20): whatever a step that enters a fault did before, the state it leaves is the one
before it with only FAULT written. That this entry is a next state is the model's choice, log entry 3. -/
def Obligations.FaultEntryKeepsAllOtherState : Prop :=
  ∀ s t : State, s.halted = false → step s = .next t → t.halted = true → t = { s with fault := t.fault }

/-- 60_exceptions.md section 3 (the spec's decision D20): after a fault no step is taken. That the model says so by a fault that names the
cause is its own choice, log entry 3. -/
def Obligations.HaltedCoreTakesNoStep : Prop :=
  ∀ (s : State) (c : FaultCause), s.progLen ≤ 65536 → s.fault.cause = some c → step s = .fault (.halted c)

/-- 40_pipeline_cycle.md section 6: a core that is DONE holds all state. That the model says so by a next state equal to the old one is
its own choice, log entry 4. -/
def Obligations.DoneCoreHoldsAllState : Prop :=
  ∀ s : State, s.progLen ≤ 65536 → s.halted = false → s.done = true → step s = .next s

/-- 60_exceptions.md section 7 (the spec's derived rule R190): a core that is not halted always has a next state; it is never stuck. A
PROG_LEN above 65536 is refused (10_state.md section 5, decision D29). R190 itself gives a DONE core no step and lists the fault entry as an
outcome of its own: that both answer a next state here is the model's choice (log entries 4 and 3); the form of the refusal is deduced (log
entry 15). -/
def Obligations.StepIsNeverStuck : Prop :=
  ∀ s : State, (s.progLen ≤ 65536 → s.halted = false → ∃ t, step s = .next t) ∧
    (65536 < s.progLen → step s = .refused .programTooLong)

/-- 40_pipeline_cycle.md section 5 and the commit of section 4 (the spec's decisions D14 and D25): a completed step counts itself, its
stall and the valid slot in WB; a step that faults counts nothing (that it answers a next state is the model's choice, log entry 3). -/
def Obligations.CountersOfAStep : Prop :=
  ∀ s t : State, s.Running → step s = .next t →
    (t.halted = false → t.cycles = s.cycles + 1 ∧ t.stalls = s.stalls + (cycleStall s).toNat ∧
      t.commits = s.commits + s.latches.wb.valid.toNat ∧ t.illegalCount = s.illegalCount +
        (s.latches.id.valid && decide (12 < s.latches.id.opcode.toNat)).toNat) ∧
    (t.halted = true → t.cycles = s.cycles ∧ t.stalls = s.stalls ∧ t.commits = s.commits ∧ t.illegalCount = s.illegalCount)

/-- 10_state.md section 2 and 40_pipeline_cycle.md section 4 (the spec's decision D14): in a completed step a register changes only by the
valid register-writing slot in WB that names it, and then to that slot's `right`. -/
def Obligations.OnlyWritebackChangesRegisters : Prop :=
  ∀ s t : State, Completes s t → ∀ (k : Nat) (hk : k < 16),
    t.regs[k] = if s.latches.wb.valid = true ∧ s.latches.wb.opcode.toNat ≤ 5 ∧ s.latches.wb.dest.toNat = k then s.latches.wb.right
      else s.regs[k]

/-- 10_state.md section 4 and 20_memory.md section 4: in a completed step a byte of memory changes only by the valid ST in Mem1, only
inside the cell its `left` names, and that cell then reads its `right`. -/
def Obligations.OnlyStoreInMem1ChangesMemory : Prop :=
  ∀ s t : State, Completes s t →
    (∀ a, ¬(s.latches.mem1.valid = true ∧ s.latches.mem1.opcode = 6) ∨ a < 4 * s.latches.mem1.left.toNat ∨
      4 * s.latches.mem1.left.toNat + 3 < a → readByte t.mem a = readByte s.mem a) ∧
    (s.mem.wf = true → s.latches.mem1.valid = true → s.latches.mem1.opcode = 6 →
      readCell t.mem s.latches.mem1.left.toNat = s.latches.mem1.right)

/-- 10_state.md sections 5 and 12: no step writes PROG_LEN or the parameter PRED_UPDATE. That PRED_UPDATE is held in a field is the
model's own choice, log entry 2. -/
def Obligations.NoStepWritesWhatTheHostSupplied : Prop :=
  ∀ s t : State, step s = .next t → t.progLen = s.progLen ∧ t.predUpdate = s.predUpdate

/-- 40_pipeline_cycle.md section 2 and 70_reset_and_hazards.md section 3 (the spec's derived rules R94 and R202): RR reads the registers,
both sources of an arithmetic instruction or the one a branch tests, after the WB of the same cycle and with no later result: no
forwarding. -/
def Obligations.RegisterReadSeesThisCyclesWriteback : Prop :=
  ∀ s t : State, Completes s t → s.latches.rr.valid = true →
    (1 ≤ s.latches.rr.opcode.toNat → s.latches.rr.opcode.toNat ≤ 4 →
      ∃ (ha : s.latches.rr.left.toNat < 16) (hb : s.latches.rr.right.toNat < 16),
        t.latches.add =
          { s.latches.rr with
            left := if s.latches.wb.valid = true ∧ s.latches.wb.opcode.toNat ≤ 5 ∧
                s.latches.wb.dest.toNat = s.latches.rr.left.toNat then s.latches.wb.right else s.regs[s.latches.rr.left.toNat]
            right := if s.latches.wb.valid = true ∧ s.latches.wb.opcode.toNat ≤ 5 ∧
                s.latches.wb.dest.toNat = s.latches.rr.right.toNat then s.latches.wb.right else s.regs[s.latches.rr.right.toNat] }) ∧
    (7 ≤ s.latches.rr.opcode.toNat → s.latches.rr.opcode.toNat ≤ 11 →
      ∃ hd : s.latches.rr.dest.toNat < 16,
        t.latches.add =
          { s.latches.rr with
            right := if s.latches.wb.valid = true ∧ s.latches.wb.opcode.toNat ≤ 5 ∧
                s.latches.wb.dest.toNat = s.latches.rr.dest.toNat then s.latches.wb.right else s.regs[s.latches.rr.dest.toNat] })

/-- 20_memory.md R57: in one cycle the LD in Mem2 reads before the ST in Mem1 writes, and the fetch sees the memory after that ST. -/
def Obligations.LoadThenStoreThenFetchInOneCycle : Prop :=
  ∀ s t : State, Completes s t →
    (s.latches.mem2.valid = true → s.latches.mem2.opcode = 5 → t.latches.wb.right = readCell s.mem s.latches.mem2.right.toNat) ∧
    (s.latches.mem1.valid = true → s.latches.mem1.opcode = 6 →
      t.mem = writeCell s.mem s.latches.mem1.left.toNat s.latches.mem1.right) ∧
    (t.latches.ifetch.valid = true →
      t.latches.ifetch.fields = decodeFields (readCell t.mem (t.latches.ifetch.fpc.toNat / 4)))

/-- 41_fetch_hazard.md R111: the slot in `L.IF` goes to `L.ID` as it is, whatever the fetch does, and `L.IF` then holds EMPTY or what this
cycle's fetch admitted. -/
def Obligations.FetchHandsItsSlotToIdUnchanged : Prop :=
  ∀ s t : State, Completes s t →
    t.latches.id = s.latches.ifetch ∧
    (t.latches.ifetch = .empty ∨
      t.latches.ifetch = .ofFields (decodeFields (readCell t.mem ((pcAtFetch s).toNat / 4))) (pcAtFetch s))

/-- 41_fetch_hazard.md section 1 (the spec's decision D7): past the sentinel, unsigned and after BR has written `pc`, nothing is admitted,
`pc` is unchanged and the cycle does not stall. -/
def Obligations.ExhaustedFetchAdmitsNothing : Prop :=
  ∀ s t : State, Completes s t → 4 * s.progLen ≤ (pcAtFetch s).toNat →
    t.latches.ifetch = .empty ∧ t.pc = pcAtFetch s ∧ t.stalls = s.stalls

/-- 41_fetch_hazard.md section 3 (the comparator is the spec's decision D24): a fetched LD or ST stalls exactly when its `left` equals the
`dest` of the valid slot that this cycle moves into RR; a stalled cycle admits nothing and leaves `pc`. Nothing else ever stalls. -/
def Obligations.OnlyTheLoadStoreHazardStalls : Prop :=
  ∀ s t : State, Completes s t → (pcAtFetch s).toNat < 4 * s.progLen →
    let f := decodeFields (readCell t.mem ((pcAtFetch s).toNat / 4))
    ((f.opcode = 5 ∨ f.opcode = 6) ∧ s.latches.ia.valid = true ∧ f.left = s.latches.ia.dest.setWidth 32 →
      t.stalls = s.stalls + 1 ∧ t.latches.ifetch = .empty ∧ t.pc = pcAtFetch s) ∧
    (¬((f.opcode = 5 ∨ f.opcode = 6) ∧ s.latches.ia.valid = true ∧ f.left = s.latches.ia.dest.setWidth 32) →
      t.stalls = s.stalls ∧ t.latches.ifetch = ⟨true, f.opcode, f.dest, f.left, f.right, pcAtFetch s⟩)

/-- 41_fetch_hazard.md R119: with no hazard an instruction that is not a branch is admitted with the `pc` it was fetched from, `pc` grows
by 4 modulo 2^32, and the cycle does not stall. -/
def Obligations.AdmissionAdvancesPcByFour : Prop :=
  ∀ s t : State, Completes s t → (pcAtFetch s).toNat < 4 * s.progLen →
    let f := decodeFields (readCell t.mem ((pcAtFetch s).toNat / 4))
    ¬(7 ≤ f.opcode.toNat ∧ f.opcode.toNat ≤ 11) →
    ¬((f.opcode = 5 ∨ f.opcode = 6) ∧ s.latches.ia.valid = true ∧ f.left = s.latches.ia.dest.setWidth 32) →
    t.latches.ifetch = ⟨true, f.opcode, f.dest, f.left, f.right, pcAtFetch s⟩ ∧ t.pc = pcAtFetch s + 4 ∧ t.stalls = s.stalls

/-- 41_fetch_hazard.md section 2 (the spec's decision D15): a fetched branch is admitted without a hazard check and `pc` goes where the
predictor, as this cycle's BR left it, says. -/
def Obligations.FetchedBranchFollowsThePrediction : Prop :=
  ∀ s t : State, Completes s t → (pcAtFetch s).toNat < 4 * s.progLen →
    let f := decodeFields (readCell t.mem ((pcAtFetch s).toNat / 4))
    7 ≤ f.opcode.toNat → f.opcode.toNat ≤ 11 →
    t.latches.ifetch = ⟨true, f.opcode, f.dest, f.left, f.right, pcAtFetch s⟩ ∧ t.stalls = s.stalls ∧
    t.pc = if 1 < (t.ptAt (predIndex (pcAtFetch s))).toNat then t.btbAt (predIndex (pcAtFetch s)) else pcAtFetch s + 4

/-- 46_ret_illegal.md (the spec's decision D18): ID drops a valid slot with an opcode above 12 and reports it once; it leaves every other
slot as it is and reports nothing. -/
def Obligations.IdDropsAndReportsIllegalOpcodes : Prop :=
  ∀ s t : State, Completes s t →
    (s.latches.id.valid = true → 12 < s.latches.id.opcode.toNat →
      t.latches.ia = .empty ∧ t.illegal = true ∧ t.illegalCount = s.illegalCount + 1) ∧
    (s.latches.id.valid = false ∨ s.latches.id.opcode.toNat ≤ 12 →
      t.latches.ia = s.latches.id ∧ t.illegal = s.illegal ∧ t.illegalCount = s.illegalCount)

/-- 45_branches.md section 1, no squash: what a branch in BR tested changes nothing but the fetch, its own slot and the predictor. Two
states that differ only in the value the branch in BR carries agree, after a completed step of each, in the registers, the memory, the
commits and every latch but IF and the branch's own. -/
def Obligations.BranchOutcomeSquashesNothing : Prop :=
  ∀ (s s' t t' : State) (v : Word),
    s' = { s with latches := { s.latches with br := { s.latches.br with right := v } } } →
    7 ≤ s.latches.br.opcode.toNat → s.latches.br.opcode.toNat ≤ 11 → Completes s t → Completes s' t' →
    t'.regs = t.regs ∧ t'.mem = t.mem ∧ t'.commits = t.commits ∧ t'.illegalCount = t.illegalCount ∧
    ∀ st : Stage, st ≠ .ifetch → st ≠ .mem1 → t'.slotAt st = t.slotAt st

/-- 10_state.md sections 8 and 9, 60_exceptions.md section 7: nothing in the core reads CYCLES, STALLS, COMMITS, ILLEGAL or
ILLEGAL_COUNT. Two states that differ in these alone step to states that differ in these alone. -/
def Obligations.CountersAndAnomalyRecordAreReadByNothing : Prop :=
  ∀ (s t : State) (cy st co n : Nat) (b : Bool), Completes s t →
    ∃ t', step { s with cycles := cy, stalls := st, commits := co, illegal := b, illegalCount := n } = .next t' ∧
      t = { t' with cycles := t.cycles, stalls := t.stalls, commits := t.commits, illegal := t.illegal, illegalCount := t.illegalCount }

/-! ### Invariants -/

/-- The state after reset has the invariant, and so has the start of every run on a canonical image with a legal PROG_LEN
(70_reset_and_hazards.md sections 1 and 2). `State.reset` holds the model's choices of INIT_MEM, PROG_LEN and PRED_UPDATE (log entries 2, 6
and 7). -/
def Obligations.InvariantAtReset : Prop :=
  Inv State.reset ∧ AdmissionsAccounted State.reset ∧
  ∀ (image : Memory) (n : Nat) (u : Bool), image.wf = true → n ≤ 65536 →
    Inv (State.boot image n u) ∧ AdmissionsAccounted (State.boot image n u)

/-- Every step keeps the invariant: the memory is canonical, PROG_LEN legal, every bubble EMPTY (10_state.md section 6), every valid slot
past ID one of the thirteen (the spec's derived rule R97), ILLEGAL agrees with its counter, the predictor is idle with PRED_UPDATE false,
and FAULT is clear or names a stage that detects its cause and still holds the faulting instruction (60_exceptions.md sections 2 and
3). The canonical form and the cursor are the model's own (log entries 1 and 5). -/
def Obligations.StepKeepsTheInvariant : Prop := ∀ s t : State, Inv s → step s = .next t → Inv t

/-- 40_pipeline_cycle.md sections 2 and 4, 45_branches.md section 1: no instruction is lost, doubled or squashed. A completed step adds to
what is in flight, committed and dropped together just the instruction it admits, and a step that admits one does not stall. -/
def Obligations.NoInstructionIsLostOrDoubled : Prop :=
  ∀ s t : State, Completes s t →
    t.commits + t.illegalCount + inFlight t = s.commits + s.illegalCount + inFlight s + t.latches.ifetch.valid.toNat ∧
    (t.latches.ifetch.valid = true → t.stalls = s.stalls)

/-- 41_fetch_hazard.md section 3 and 70_reset_and_hazards.md section 4: every step keeps the account that the instructions committed,
dropped and in flight and the stalls together are no more than the cycles. -/
def Obligations.StepKeepsAdmissionsAccounted : Prop :=
  ∀ s t : State, AdmissionsAccounted s → step s = .next t → AdmissionsAccounted t

/-- 44_load_store.md section of R150 (the spec's decision D13): a store's operands are the literals of its word, so every step keeps that,
and no step ever changes a byte above the cells 0 to 127. -/
def Obligations.StoresReachOnlyTheFirst128Cells : Prop :=
  ∀ s t : State, LiteralStores s → step s = .next t →
    LiteralStores t ∧ ∀ a, 512 ≤ a → readByte t.mem a = readByte s.mem a

/-! ### Whole instructions and whole runs -/

/-- 40_pipeline_cycle.md section 3 (the spec's derived rule R95): an instruction in `L.IF` with a defined opcode is, after `n` more
completed cycles, in the `n`-th latch behind, the same instruction from the same address; nothing delays or squashes it. -/
def Obligations.AdmittedInstructionAdvancesOneStageACycle : Prop :=
  ∀ (s t : State) (n : Nat) (hn : n < Stage.all.length), (s.slotAt .ifetch).valid = true → (s.slotAt .ifetch).opcode.toNat ≤ 12 →
    RunsTo n s t →
    (t.slotAt Stage.all[n]).valid = true ∧ (t.slotAt Stage.all[n]).opcode = (s.slotAt .ifetch).opcode ∧
    (t.slotAt Stage.all[n]).dest = (s.slotAt .ifetch).dest ∧ (t.slotAt Stage.all[n]).fpc = (s.slotAt .ifetch).fpc

/-- 40_pipeline_cycle.md section 6 and 70_reset_and_hazards.md section 4: once fetch is exhausted and no branch is in flight, eleven
completed steps leave the run DONE, with `pc` where it was. If the run is DONE sooner, the steps left over hold all state and are no
cycles of the core (the model's choice, log entry 4). -/
def Obligations.ExhaustedPipelineDrainsInElevenCycles : Prop :=
  ∀ s t : State, s.fetchExhausted = true →
    (∀ st : Stage, (s.slotAt st).valid = true → ¬(7 ≤ (s.slotAt st).opcode.toNat ∧ (s.slotAt st).opcode.toNat ≤ 11)) →
    RunsTo 11 s t → t.done = true ∧ t.pc = s.pc

/-- 43_set_arith.md sections 2 to 6, the net effects: SET, ADD, SUB, MUL and DIV run alone, from the fetch to the commit. Twelve cycles,
one commit, the destination written, nothing else changed (SET's immediate copy and DIV's result are the spec's decisions D10 and
D19; DIV's rounding, log entry 13). -/
def Obligations.SetAndArithmeticRunAlone : Prop :=
  (∀ (d : Byte) (l r : Word) (s : State), Lone (.set d l r) s → WritesAlone d l s) ∧
  ∀ (d : Byte) (l r : Word) (s : State) (ha : l.toNat < 16) (hb : r.toNat < 16),
    (Lone (.add d l r) s → WritesAlone d (s.regs[l.toNat] + s.regs[r.toNat]) s) ∧
    (Lone (.sub d l r) s → WritesAlone d (s.regs[l.toNat] - s.regs[r.toNat]) s) ∧
    (Lone (.mul d l r) s → WritesAlone d (s.regs[l.toNat] * s.regs[r.toNat]) s) ∧
    (Lone (.div d l r) s → s.regs[r.toNat] ≠ 0 →
      WritesAlone d (BitVec.ofInt 32 (s.regs[l.toNat].toInt.tdiv s.regs[r.toNat].toInt)) s)

/-- 44_load_store.md, the net effects of LD and ST, and 46_ret_illegal.md, that of RET, each run alone from the fetch to the commit (the
operand convention and RET's meaning are the spec's decisions D13 and D17). -/
def Obligations.LoadStoreAndRetRunAlone : Prop :=
  ∀ (d : Byte) (l r : Word) (s : State),
    (Lone (.ld d l r) s → r.toNat ≤ 65535 → WritesAlone d (readCell s.mem r.toNat) s) ∧
    (Lone (.st d l r) s → l.toNat ≤ 65535 → runSteps 12 s = .next
      { s with mem := writeCell s.mem l.toNat r, pc := s.pc + 4, cycles := s.cycles + 12, commits := s.commits + 1 }) ∧
    (Lone (.ret d l r) s → runSteps 12 s = .next
      { s with pc := s.pc + 4, cycles := s.cycles + 12, commits := s.commits + 1 })

/-- 45_branches.md, the five branches, each run alone from the fetch to the commit: `pc` at the target if the condition holds of the
register tested, where the prediction sent it if not, the predictor told with PRED_UPDATE true, nothing else changed (the absolute target
is the spec's decision D15). -/
def Obligations.BranchesRunAlone : Prop :=
  BranchAlone .bez (fun v => decide (v.toInt = 0)) ∧ BranchAlone .bgez (fun v => decide (0 ≤ v.toInt)) ∧
  BranchAlone .blez (fun v => decide (v.toInt ≤ 0)) ∧ BranchAlone .bgtz (fun v => decide (0 < v.toInt)) ∧
  BranchAlone .bltz (fun v => decide (v.toInt < 0))

/-- 43_set_arith.md section 6 and 60_exceptions.md section 3 (the spec's decisions D19 and D20): a DIV run alone with a zero divisor
completes seven cycles and faults in the eighth, with the registers as they were; every later step is the model's fault of a halted core
(log entry 3). -/
def Obligations.DivisionByZeroHaltsInTheEighthCycle : Prop :=
  ∀ (d : Byte) (l r : Word) (s : State) (ha : l.toNat < 16) (hb : r.toNat < 16), Lone (.div d l r) s → s.regs[r.toNat] = 0 →
    (∃ t, runSteps 8 s = .next t ∧ t.fault = ⟨some .divZero, .div, s.pc⟩ ∧ t.cycles = s.cycles + 7 ∧ t.commits = s.commits ∧
      t.regs = s.regs ∧ t.mem = s.mem) ∧
    ∀ n, 9 ≤ n → runSteps n s = .fault (.halted .divZero)

/-- 46_ret_illegal.md and 95_test_vectors.md V-ILL-1 (the spec's decision D18): an illegal word run alone is admitted, dropped in ID and
never committed; the run ends after three cycles with ILLEGAL set. That a fourth step answers the same state is the model's choice, log
entry 4. -/
def Obligations.IllegalWordRunAloneIsDropped : Prop :=
  ∀ s : State, s.progLen ≤ 65536 → s.fault = .clear → s.latches = .empty → s.cursor = .ifetch → s.pc.toNat < 4 * s.progLen →
    4 * s.progLen ≤ s.pc.toNat + 4 → 12 < (decodeFields (fetchWord s)).opcode.toNat →
    runSteps 3 s = .next { s with pc := s.pc + 4, cycles := s.cycles + 3, illegal := true, illegalCount := s.illegalCount + 1 } ∧
    runSteps 4 s = runSteps 3 s
end

