-- ==== Sys2Proof/Laws/Memory.lean ====
section
/-! SUPPORT. The laws of the memory: a read after a write to the same byte or cell gives the value written, a write leaves every
other byte and cell alone, and every write keeps the canonical form. -/

namespace Sys2Proof.Machine

/-- A byte below every listed address reads 0. -/
theorem readByte_below : ∀ {m : Memory} {lo k : Nat}, Memory.wfFrom lo m = true → k < lo → readByte m k = 0
  | [], _, _, _, _ => rfl
  | (a, b) :: m, lo, k, h, hk => by
    simp only [Memory.wfFrom, Bool.and_eq_true, decide_eq_true_eq] at h
    have hak : a ≠ k := by omega
    simp only [readByte, hak, if_false]
    exact readByte_below h.2 (by omega)

/-- The canonical form from an address on is one from any lower address on. -/
theorem wfFrom_mono {m : Memory} {lo lo' : Nat} (hl : lo' ≤ lo) (h : Memory.wfFrom lo m = true) : Memory.wfFrom lo' m = true := by
  cases m with
  | nil => rfl
  | cons c m =>
    simp only [Memory.wfFrom, Bool.and_eq_true, decide_eq_true_eq] at h ⊢
    exact ⟨⟨⟨by omega, h.1.1.2⟩, h.1.2⟩, h.2⟩

theorem readByte_writeByte_same_from :
    ∀ {m : Memory} {lo : Nat} (k : Nat) (v : Byte), Memory.wfFrom lo m = true → readByte (writeByte m k v) k = v
  | [], _, k, v, _ => by
    by_cases hv : v = 0 <;> simp only [writeByte, readByte, hv, if_true, if_false]
  | (a, b) :: m, lo, k, v, h => by
    have hw := h
    simp only [Memory.wfFrom, Bool.and_eq_true, decide_eq_true_eq] at h
    simp only [writeByte]
    by_cases h1 : k < a
    · simp only [h1, if_true]
      by_cases hv : v = 0
      · have hak : a ≠ k := by omega
        simp only [hv, if_true, readByte, hak, if_false]
        exact readByte_below h.2 (by omega)
      · simp only [hv, if_false, readByte, if_true]
    · by_cases h2 : k = a
      · subst h2
        by_cases hv : v = 0
        · simp only [Nat.lt_irrefl, if_false, if_true, hv]
          exact readByte_below h.2 (by omega)
        · simp only [h1, hv, if_false, readByte, if_true]
      · have hak : a ≠ k := fun e => h2 e.symm
        simp only [h1, h2, if_false, readByte, hak]
        exact readByte_writeByte_same_from k v h.2

/-- A byte read after it is written. -/
theorem readByte_writeByte_same {m : Memory} (h : m.wf = true) (k : Nat) (v : Byte) : readByte (writeByte m k v) k = v :=
  readByte_writeByte_same_from k v h

/-- A write leaves every other byte alone, whatever the form of the list. -/
theorem readByte_writeByte_other : ∀ (m : Memory) {k j : Nat} (v : Byte), j ≠ k → readByte (writeByte m k v) j = readByte m j
  | [], k, j, v, h => by
    by_cases hv : v = 0
    · simp only [writeByte, hv, if_true]
    · have : k ≠ j := fun e => h e.symm
      simp only [writeByte, readByte, hv, this, if_false]
  | (a, b) :: m, k, j, v, h => by
    have hkj : k ≠ j := fun e => h e.symm
    simp only [writeByte]
    by_cases h1 : k < a
    · by_cases hv : v = 0 <;> simp only [h1, hv, readByte, hkj, if_true, if_false]
    · by_cases h2 : k = a
      · subst h2
        by_cases hv : v = 0 <;> simp only [Nat.lt_irrefl, hv, readByte, hkj, if_true, if_false]
      · by_cases haj : a = j
        · subst haj; simp only [h1, h2, readByte, if_true, if_false]
        · simp only [h1, h2, if_false, readByte, haj]
          exact readByte_writeByte_other m v h

theorem wfFrom_writeByte :
    ∀ {m : Memory} {lo k : Nat} (v : Byte), Memory.wfFrom lo m = true → lo ≤ k → k < Config.memBytes →
      Memory.wfFrom lo (writeByte m k v) = true
  | [], lo, k, v, _, hl, hk => by
    by_cases hv : v = 0
    · simp only [writeByte, hv, if_true, Memory.wfFrom]
    · have hk' : k < 262144 := hk
      simp only [writeByte, hv, if_false, Memory.wfFrom, Bool.and_eq_true, decide_eq_true_eq]
      exact ⟨⟨⟨hl, hk'⟩, hv⟩, trivial⟩
  | (a, b) :: m, lo, k, v, h, hl, hk => by
    have hw := h
    have hk' : k < 262144 := hk
    simp only [Memory.wfFrom, Bool.and_eq_true, decide_eq_true_eq] at h
    simp only [writeByte]
    by_cases h1 : k < a
    · by_cases hv : v = 0
      · simp only [h1, hv, if_true]; exact hw
      · simp only [h1, hv, if_true, if_false, Memory.wfFrom, Bool.and_eq_true, decide_eq_true_eq]
        exact ⟨⟨⟨hl, hk'⟩, hv⟩, ⟨⟨by omega, h.1.1.2⟩, h.1.2⟩, h.2⟩
    · by_cases h2 : k = a
      · subst h2
        by_cases hv : v = 0
        · simp only [Nat.lt_irrefl, hv, if_true, if_false]
          exact wfFrom_mono (by omega) h.2
        · simp only [Nat.lt_irrefl, hv, if_true, if_false, Memory.wfFrom, Bool.and_eq_true, decide_eq_true_eq]
          exact ⟨⟨⟨hl, hk'⟩, hv⟩, h.2⟩
      · simp only [h1, h2, if_false, Memory.wfFrom, Bool.and_eq_true, decide_eq_true_eq]
        exact ⟨⟨⟨h.1.1.1, h.1.1.2⟩, h.1.2⟩, wfFrom_writeByte v h.2 (by omega) hk⟩

/-- A byte write inside the address space keeps the canonical form. -/
theorem wf_writeByte {m : Memory} (h : m.wf = true) {k : Nat} (v : Byte) (hk : k < Config.memBytes) : (writeByte m k v).wf = true :=
  wfFrom_writeByte v h (Nat.zero_le _) hk

/-- A cell write inside the address space keeps the canonical form. -/
theorem wf_writeCell {m : Memory} (h : m.wf = true) {i : Nat} (v : Word) (hi : i < Config.memWords) : (writeCell m i v).wf = true := by
  have hi' : i < 65536 := hi
  have hb : ∀ j, j ≤ 3 → 4 * i + j < Config.memBytes := fun j hj => by show 4 * i + j < 262144; omega
  exact wf_writeByte (wf_writeByte (wf_writeByte (wf_writeByte h _ (hb 0 (by omega))) _ (hb 1 (by omega))) _ (hb 2 (by omega))) _
    (hb 3 (by omega))

/-- A cell write leaves every byte outside the cell alone. -/
theorem readByte_writeCell_outside (m : Memory) (i : Nat) (v : Word) {a : Nat} (ha : a < 4 * i ∨ 4 * i + 3 < a) :
    readByte (writeCell m i v) a = readByte m a := by
  simp only [writeCell]
  rw [readByte_writeByte_other _ _ (by omega), readByte_writeByte_other _ _ (by omega), readByte_writeByte_other _ _ (by omega),
    readByte_writeByte_other _ _ (by omega)]

/-- A cell write leaves every other cell alone. -/
theorem readCell_writeCell_other (m : Memory) {i j : Nat} (v : Word) (h : j ≠ i) : readCell (writeCell m i v) j = readCell m j := by
  simp only [readCell]
  rw [readByte_writeCell_outside _ _ _ (by omega), readByte_writeCell_outside _ _ _ (by omega),
    readByte_writeCell_outside _ _ _ (by omega), readByte_writeCell_outside _ _ _ (by omega)]

/-- The four bytes of a word put together again. -/
theorem append_bytes (v : Word) :
    v.extractLsb' 24 8 ++ v.extractLsb' 16 8 ++ v.extractLsb' 8 8 ++ v.extractLsb' 0 8 = v := by
  apply BitVec.eq_of_getLsbD_eq
  intro i hi
  simp only [BitVec.getLsbD_append, BitVec.getLsbD_extractLsb']
  by_cases h0 : i < 8
  · simp [h0]
  · by_cases h1 : i - 8 < 8
    · have : 8 + (i - 8) = i := by omega
      simp [h0, h1, this]
    · by_cases h2 : i - 8 - 8 < 8
      · have : 16 + (i - 8 - 8) = i := by omega
        simp [h0, h1, h2, this]
      · have h3 : i - 8 - 8 - 8 < 8 := by omega
        have : 24 + (i - 8 - 8 - 8) = i := by omega
        simp [h0, h1, h2, h3, this]

/-- A cell read after it is written. -/
theorem readCell_writeCell_same {m : Memory} (h : m.wf = true) {i : Nat} (v : Word) (hi : i < Config.memWords) :
    readCell (writeCell m i v) i = v := by
  have hi' : i < 65536 := hi
  have hb : ∀ j, j ≤ 3 → 4 * i + j < Config.memBytes := fun j hj => by show 4 * i + j < 262144; omega
  have w0 := wf_writeByte h (v.extractLsb' 0 8) (hb 0 (by omega))
  have w1 := wf_writeByte w0 (v.extractLsb' 8 8) (hb 1 (by omega))
  have w2 := wf_writeByte w1 (v.extractLsb' 16 8) (hb 2 (by omega))
  have e3 : readByte (writeCell m i v) (4 * i + 3) = v.extractLsb' 24 8 := readByte_writeByte_same w2 _ _
  have e2 : readByte (writeCell m i v) (4 * i + 2) = v.extractLsb' 16 8 := by
    simp only [writeCell]
    rw [readByte_writeByte_other _ _ (by omega)]
    exact readByte_writeByte_same w1 _ _
  have e1 : readByte (writeCell m i v) (4 * i + 1) = v.extractLsb' 8 8 := by
    simp only [writeCell]
    rw [readByte_writeByte_other _ _ (by omega), readByte_writeByte_other _ _ (by omega)]
    exact readByte_writeByte_same w0 _ _
  have e0 : readByte (writeCell m i v) (4 * i) = v.extractLsb' 0 8 := by
    simp only [writeCell]
    rw [readByte_writeByte_other _ _ (by omega), readByte_writeByte_other _ _ (by omega), readByte_writeByte_other _ _ (by omega)]
    exact readByte_writeByte_same h _ _
  simp only [readCell, e0, e1, e2, e3]
  exact append_bytes v

/-- `MemWrite` keeps the canonical form. -/
theorem wf_memWrite {a v : Word} {s t : State} (h : s.mem.wf = true) (ht : memWrite a v s = .ok t) : t.mem.wf = true := by
  unfold memWrite at ht
  split at ht
  · next hi => cases ht; exact wf_writeCell h v hi
  · cases ht

/-- The memory after reset has the canonical form. -/
theorem wf_reset : State.reset.mem.wf = true := rfl

end Sys2Proof.Machine
end

