-- ==== Sys2Proof/Laws/State.lean ====
section
/-! SUPPORT. One lemma per field per update of State, and the lemmas of the latches. -/

namespace Sys2Proof.Machine

section updates
variable (s : State)

@[simp] theorem State.setLatch_regs (st : Stage) (sl : Slot) : (s.setLatch st sl).regs = s.regs := rfl
@[simp] theorem State.setLatch_pc (st : Stage) (sl : Slot) : (s.setLatch st sl).pc = s.pc := rfl
@[simp] theorem State.setLatch_mem (st : Stage) (sl : Slot) : (s.setLatch st sl).mem = s.mem := rfl
@[simp] theorem State.setLatch_progLen (st : Stage) (sl : Slot) : (s.setLatch st sl).progLen = s.progLen := rfl
@[simp] theorem State.setLatch_latches (st : Stage) (sl : Slot) : (s.setLatch st sl).latches = s.latches.set st sl := rfl
@[simp] theorem State.setLatch_pt (st : Stage) (sl : Slot) : (s.setLatch st sl).pt = s.pt := rfl
@[simp] theorem State.setLatch_btb (st : Stage) (sl : Slot) : (s.setLatch st sl).btb = s.btb := rfl
@[simp] theorem State.setLatch_cycles (st : Stage) (sl : Slot) : (s.setLatch st sl).cycles = s.cycles := rfl
@[simp] theorem State.setLatch_stalls (st : Stage) (sl : Slot) : (s.setLatch st sl).stalls = s.stalls := rfl
@[simp] theorem State.setLatch_commits (st : Stage) (sl : Slot) : (s.setLatch st sl).commits = s.commits := rfl
@[simp] theorem State.setLatch_fault (st : Stage) (sl : Slot) : (s.setLatch st sl).fault = s.fault := rfl
@[simp] theorem State.setLatch_illegal (st : Stage) (sl : Slot) : (s.setLatch st sl).illegal = s.illegal := rfl
@[simp] theorem State.setLatch_illegalCount (st : Stage) (sl : Slot) : (s.setLatch st sl).illegalCount = s.illegalCount := rfl
@[simp] theorem State.setLatch_cursor (st : Stage) (sl : Slot) : (s.setLatch st sl).cursor = s.cursor := rfl
@[simp] theorem State.setLatch_predUpdate (st : Stage) (sl : Slot) : (s.setLatch st sl).predUpdate = s.predUpdate := rfl
@[simp] theorem State.setLatch_halted (st : Stage) (sl : Slot) : (s.setLatch st sl).halted = s.halted := rfl
@[simp] theorem State.setLatch_ptAt (st : Stage) (sl : Slot) (j : BitVec 4) : (s.setLatch st sl).ptAt j = s.ptAt j := rfl
@[simp] theorem State.setLatch_btbAt (st : Stage) (sl : Slot) (j : BitVec 4) : (s.setLatch st sl).btbAt j = s.btbAt j := rfl
@[simp] theorem State.setPc_regs (t : Word) : (s.setPc t).regs = s.regs := rfl
@[simp] theorem State.setPc_pc (t : Word) : (s.setPc t).pc = t := rfl
@[simp] theorem State.setPc_mem (t : Word) : (s.setPc t).mem = s.mem := rfl
@[simp] theorem State.setPc_progLen (t : Word) : (s.setPc t).progLen = s.progLen := rfl
@[simp] theorem State.setPc_latches (t : Word) : (s.setPc t).latches = s.latches := rfl
@[simp] theorem State.setPc_pt (t : Word) : (s.setPc t).pt = s.pt := rfl
@[simp] theorem State.setPc_btb (t : Word) : (s.setPc t).btb = s.btb := rfl
@[simp] theorem State.setPc_cycles (t : Word) : (s.setPc t).cycles = s.cycles := rfl
@[simp] theorem State.setPc_stalls (t : Word) : (s.setPc t).stalls = s.stalls := rfl
@[simp] theorem State.setPc_commits (t : Word) : (s.setPc t).commits = s.commits := rfl
@[simp] theorem State.setPc_fault (t : Word) : (s.setPc t).fault = s.fault := rfl
@[simp] theorem State.setPc_illegal (t : Word) : (s.setPc t).illegal = s.illegal := rfl
@[simp] theorem State.setPc_illegalCount (t : Word) : (s.setPc t).illegalCount = s.illegalCount := rfl
@[simp] theorem State.setPc_cursor (t : Word) : (s.setPc t).cursor = s.cursor := rfl
@[simp] theorem State.setPc_predUpdate (t : Word) : (s.setPc t).predUpdate = s.predUpdate := rfl
@[simp] theorem State.setPc_slotAt (t : Word) (st' : Stage) : (s.setPc t).slotAt st' = s.slotAt st' := rfl
@[simp] theorem State.setPc_halted (t : Word) : (s.setPc t).halted = s.halted := rfl
@[simp] theorem State.setPc_ptAt (t : Word) (j : BitVec 4) : (s.setPc t).ptAt j = s.ptAt j := rfl
@[simp] theorem State.setPc_btbAt (t : Word) (j : BitVec 4) : (s.setPc t).btbAt j = s.btbAt j := rfl
@[simp] theorem State.setMem_regs (m : Memory) : (s.setMem m).regs = s.regs := rfl
@[simp] theorem State.setMem_pc (m : Memory) : (s.setMem m).pc = s.pc := rfl
@[simp] theorem State.setMem_mem (m : Memory) : (s.setMem m).mem = m := rfl
@[simp] theorem State.setMem_progLen (m : Memory) : (s.setMem m).progLen = s.progLen := rfl
@[simp] theorem State.setMem_latches (m : Memory) : (s.setMem m).latches = s.latches := rfl
@[simp] theorem State.setMem_pt (m : Memory) : (s.setMem m).pt = s.pt := rfl
@[simp] theorem State.setMem_btb (m : Memory) : (s.setMem m).btb = s.btb := rfl
@[simp] theorem State.setMem_cycles (m : Memory) : (s.setMem m).cycles = s.cycles := rfl
@[simp] theorem State.setMem_stalls (m : Memory) : (s.setMem m).stalls = s.stalls := rfl
@[simp] theorem State.setMem_commits (m : Memory) : (s.setMem m).commits = s.commits := rfl
@[simp] theorem State.setMem_fault (m : Memory) : (s.setMem m).fault = s.fault := rfl
@[simp] theorem State.setMem_illegal (m : Memory) : (s.setMem m).illegal = s.illegal := rfl
@[simp] theorem State.setMem_illegalCount (m : Memory) : (s.setMem m).illegalCount = s.illegalCount := rfl
@[simp] theorem State.setMem_cursor (m : Memory) : (s.setMem m).cursor = s.cursor := rfl
@[simp] theorem State.setMem_predUpdate (m : Memory) : (s.setMem m).predUpdate = s.predUpdate := rfl
@[simp] theorem State.setMem_slotAt (m : Memory) (st' : Stage) : (s.setMem m).slotAt st' = s.slotAt st' := rfl
@[simp] theorem State.setMem_halted (m : Memory) : (s.setMem m).halted = s.halted := rfl
@[simp] theorem State.setMem_ptAt (m : Memory) (j : BitVec 4) : (s.setMem m).ptAt j = s.ptAt j := rfl
@[simp] theorem State.setMem_btbAt (m : Memory) (j : BitVec 4) : (s.setMem m).btbAt j = s.btbAt j := rfl
@[simp] theorem State.setRegs_regs (x : Vector Word 16) : (s.setRegs x).regs = x := rfl
@[simp] theorem State.setRegs_pc (x : Vector Word 16) : (s.setRegs x).pc = s.pc := rfl
@[simp] theorem State.setRegs_mem (x : Vector Word 16) : (s.setRegs x).mem = s.mem := rfl
@[simp] theorem State.setRegs_progLen (x : Vector Word 16) : (s.setRegs x).progLen = s.progLen := rfl
@[simp] theorem State.setRegs_latches (x : Vector Word 16) : (s.setRegs x).latches = s.latches := rfl
@[simp] theorem State.setRegs_pt (x : Vector Word 16) : (s.setRegs x).pt = s.pt := rfl
@[simp] theorem State.setRegs_btb (x : Vector Word 16) : (s.setRegs x).btb = s.btb := rfl
@[simp] theorem State.setRegs_cycles (x : Vector Word 16) : (s.setRegs x).cycles = s.cycles := rfl
@[simp] theorem State.setRegs_stalls (x : Vector Word 16) : (s.setRegs x).stalls = s.stalls := rfl
@[simp] theorem State.setRegs_commits (x : Vector Word 16) : (s.setRegs x).commits = s.commits := rfl
@[simp] theorem State.setRegs_fault (x : Vector Word 16) : (s.setRegs x).fault = s.fault := rfl
@[simp] theorem State.setRegs_illegal (x : Vector Word 16) : (s.setRegs x).illegal = s.illegal := rfl
@[simp] theorem State.setRegs_illegalCount (x : Vector Word 16) : (s.setRegs x).illegalCount = s.illegalCount := rfl
@[simp] theorem State.setRegs_cursor (x : Vector Word 16) : (s.setRegs x).cursor = s.cursor := rfl
@[simp] theorem State.setRegs_predUpdate (x : Vector Word 16) : (s.setRegs x).predUpdate = s.predUpdate := rfl
@[simp] theorem State.setRegs_slotAt (x : Vector Word 16) (st' : Stage) : (s.setRegs x).slotAt st' = s.slotAt st' := rfl
@[simp] theorem State.setRegs_halted (x : Vector Word 16) : (s.setRegs x).halted = s.halted := rfl
@[simp] theorem State.setRegs_ptAt (x : Vector Word 16) (j : BitVec 4) : (s.setRegs x).ptAt j = s.ptAt j := rfl
@[simp] theorem State.setRegs_btbAt (x : Vector Word 16) (j : BitVec 4) : (s.setRegs x).btbAt j = s.btbAt j := rfl
@[simp] theorem State.setPt_regs (i : BitVec 4) (c : BitVec 2) : (s.setPt i c).regs = s.regs := rfl
@[simp] theorem State.setPt_pc (i : BitVec 4) (c : BitVec 2) : (s.setPt i c).pc = s.pc := rfl
@[simp] theorem State.setPt_mem (i : BitVec 4) (c : BitVec 2) : (s.setPt i c).mem = s.mem := rfl
@[simp] theorem State.setPt_progLen (i : BitVec 4) (c : BitVec 2) : (s.setPt i c).progLen = s.progLen := rfl
@[simp] theorem State.setPt_latches (i : BitVec 4) (c : BitVec 2) : (s.setPt i c).latches = s.latches := rfl
@[simp] theorem State.setPt_pt (i : BitVec 4) (c : BitVec 2) : (s.setPt i c).pt = s.pt.set i.toNat c i.isLt := rfl
@[simp] theorem State.setPt_btb (i : BitVec 4) (c : BitVec 2) : (s.setPt i c).btb = s.btb := rfl
@[simp] theorem State.setPt_cycles (i : BitVec 4) (c : BitVec 2) : (s.setPt i c).cycles = s.cycles := rfl
@[simp] theorem State.setPt_stalls (i : BitVec 4) (c : BitVec 2) : (s.setPt i c).stalls = s.stalls := rfl
@[simp] theorem State.setPt_commits (i : BitVec 4) (c : BitVec 2) : (s.setPt i c).commits = s.commits := rfl
@[simp] theorem State.setPt_fault (i : BitVec 4) (c : BitVec 2) : (s.setPt i c).fault = s.fault := rfl
@[simp] theorem State.setPt_illegal (i : BitVec 4) (c : BitVec 2) : (s.setPt i c).illegal = s.illegal := rfl
@[simp] theorem State.setPt_illegalCount (i : BitVec 4) (c : BitVec 2) : (s.setPt i c).illegalCount = s.illegalCount := rfl
@[simp] theorem State.setPt_cursor (i : BitVec 4) (c : BitVec 2) : (s.setPt i c).cursor = s.cursor := rfl
@[simp] theorem State.setPt_predUpdate (i : BitVec 4) (c : BitVec 2) : (s.setPt i c).predUpdate = s.predUpdate := rfl
@[simp] theorem State.setPt_slotAt (i : BitVec 4) (c : BitVec 2) (st' : Stage) : (s.setPt i c).slotAt st' = s.slotAt st' := rfl
@[simp] theorem State.setPt_halted (i : BitVec 4) (c : BitVec 2) : (s.setPt i c).halted = s.halted := rfl
@[simp] theorem State.setPt_btbAt (i : BitVec 4) (c : BitVec 2) (j : BitVec 4) : (s.setPt i c).btbAt j = s.btbAt j := rfl
@[simp] theorem State.setBtb_regs (i : BitVec 4) (t : Word) : (s.setBtb i t).regs = s.regs := rfl
@[simp] theorem State.setBtb_pc (i : BitVec 4) (t : Word) : (s.setBtb i t).pc = s.pc := rfl
@[simp] theorem State.setBtb_mem (i : BitVec 4) (t : Word) : (s.setBtb i t).mem = s.mem := rfl
@[simp] theorem State.setBtb_progLen (i : BitVec 4) (t : Word) : (s.setBtb i t).progLen = s.progLen := rfl
@[simp] theorem State.setBtb_latches (i : BitVec 4) (t : Word) : (s.setBtb i t).latches = s.latches := rfl
@[simp] theorem State.setBtb_pt (i : BitVec 4) (t : Word) : (s.setBtb i t).pt = s.pt := rfl
@[simp] theorem State.setBtb_btb (i : BitVec 4) (t : Word) : (s.setBtb i t).btb = s.btb.set i.toNat t i.isLt := rfl
@[simp] theorem State.setBtb_cycles (i : BitVec 4) (t : Word) : (s.setBtb i t).cycles = s.cycles := rfl
@[simp] theorem State.setBtb_stalls (i : BitVec 4) (t : Word) : (s.setBtb i t).stalls = s.stalls := rfl
@[simp] theorem State.setBtb_commits (i : BitVec 4) (t : Word) : (s.setBtb i t).commits = s.commits := rfl
@[simp] theorem State.setBtb_fault (i : BitVec 4) (t : Word) : (s.setBtb i t).fault = s.fault := rfl
@[simp] theorem State.setBtb_illegal (i : BitVec 4) (t : Word) : (s.setBtb i t).illegal = s.illegal := rfl
@[simp] theorem State.setBtb_illegalCount (i : BitVec 4) (t : Word) : (s.setBtb i t).illegalCount = s.illegalCount := rfl
@[simp] theorem State.setBtb_cursor (i : BitVec 4) (t : Word) : (s.setBtb i t).cursor = s.cursor := rfl
@[simp] theorem State.setBtb_predUpdate (i : BitVec 4) (t : Word) : (s.setBtb i t).predUpdate = s.predUpdate := rfl
@[simp] theorem State.setBtb_slotAt (i : BitVec 4) (t : Word) (st' : Stage) : (s.setBtb i t).slotAt st' = s.slotAt st' := rfl
@[simp] theorem State.setBtb_halted (i : BitVec 4) (t : Word) : (s.setBtb i t).halted = s.halted := rfl
@[simp] theorem State.setBtb_ptAt (i : BitVec 4) (t : Word) (j : BitVec 4) : (s.setBtb i t).ptAt j = s.ptAt j := rfl
@[simp] theorem State.setFault_regs (f : FaultRecord) : (s.setFault f).regs = s.regs := rfl
@[simp] theorem State.setFault_pc (f : FaultRecord) : (s.setFault f).pc = s.pc := rfl
@[simp] theorem State.setFault_mem (f : FaultRecord) : (s.setFault f).mem = s.mem := rfl
@[simp] theorem State.setFault_progLen (f : FaultRecord) : (s.setFault f).progLen = s.progLen := rfl
@[simp] theorem State.setFault_latches (f : FaultRecord) : (s.setFault f).latches = s.latches := rfl
@[simp] theorem State.setFault_pt (f : FaultRecord) : (s.setFault f).pt = s.pt := rfl
@[simp] theorem State.setFault_btb (f : FaultRecord) : (s.setFault f).btb = s.btb := rfl
@[simp] theorem State.setFault_cycles (f : FaultRecord) : (s.setFault f).cycles = s.cycles := rfl
@[simp] theorem State.setFault_stalls (f : FaultRecord) : (s.setFault f).stalls = s.stalls := rfl
@[simp] theorem State.setFault_commits (f : FaultRecord) : (s.setFault f).commits = s.commits := rfl
@[simp] theorem State.setFault_fault (f : FaultRecord) : (s.setFault f).fault = f := rfl
@[simp] theorem State.setFault_illegal (f : FaultRecord) : (s.setFault f).illegal = s.illegal := rfl
@[simp] theorem State.setFault_illegalCount (f : FaultRecord) : (s.setFault f).illegalCount = s.illegalCount := rfl
@[simp] theorem State.setFault_cursor (f : FaultRecord) : (s.setFault f).cursor = s.cursor := rfl
@[simp] theorem State.setFault_predUpdate (f : FaultRecord) : (s.setFault f).predUpdate = s.predUpdate := rfl
@[simp] theorem State.setFault_slotAt (f : FaultRecord) (st' : Stage) : (s.setFault f).slotAt st' = s.slotAt st' := rfl
@[simp] theorem State.setFault_ptAt (f : FaultRecord) (j : BitVec 4) : (s.setFault f).ptAt j = s.ptAt j := rfl
@[simp] theorem State.setFault_btbAt (f : FaultRecord) (j : BitVec 4) : (s.setFault f).btbAt j = s.btbAt j := rfl
@[simp] theorem State.setCursor_regs (st : Stage) : (s.setCursor st).regs = s.regs := rfl
@[simp] theorem State.setCursor_pc (st : Stage) : (s.setCursor st).pc = s.pc := rfl
@[simp] theorem State.setCursor_mem (st : Stage) : (s.setCursor st).mem = s.mem := rfl
@[simp] theorem State.setCursor_progLen (st : Stage) : (s.setCursor st).progLen = s.progLen := rfl
@[simp] theorem State.setCursor_latches (st : Stage) : (s.setCursor st).latches = s.latches := rfl
@[simp] theorem State.setCursor_pt (st : Stage) : (s.setCursor st).pt = s.pt := rfl
@[simp] theorem State.setCursor_btb (st : Stage) : (s.setCursor st).btb = s.btb := rfl
@[simp] theorem State.setCursor_cycles (st : Stage) : (s.setCursor st).cycles = s.cycles := rfl
@[simp] theorem State.setCursor_stalls (st : Stage) : (s.setCursor st).stalls = s.stalls := rfl
@[simp] theorem State.setCursor_commits (st : Stage) : (s.setCursor st).commits = s.commits := rfl
@[simp] theorem State.setCursor_fault (st : Stage) : (s.setCursor st).fault = s.fault := rfl
@[simp] theorem State.setCursor_illegal (st : Stage) : (s.setCursor st).illegal = s.illegal := rfl
@[simp] theorem State.setCursor_illegalCount (st : Stage) : (s.setCursor st).illegalCount = s.illegalCount := rfl
@[simp] theorem State.setCursor_cursor (st : Stage) : (s.setCursor st).cursor = st := rfl
@[simp] theorem State.setCursor_predUpdate (st : Stage) : (s.setCursor st).predUpdate = s.predUpdate := rfl
@[simp] theorem State.setCursor_slotAt (st : Stage) (st' : Stage) : (s.setCursor st).slotAt st' = s.slotAt st' := rfl
@[simp] theorem State.setCursor_halted (st : Stage) : (s.setCursor st).halted = s.halted := rfl
@[simp] theorem State.setCursor_ptAt (st : Stage) (j : BitVec 4) : (s.setCursor st).ptAt j = s.ptAt j := rfl
@[simp] theorem State.setCursor_btbAt (st : Stage) (j : BitVec 4) : (s.setCursor st).btbAt j = s.btbAt j := rfl
@[simp] theorem State.addCycle_regs : (s.addCycle).regs = s.regs := rfl
@[simp] theorem State.addCycle_pc : (s.addCycle).pc = s.pc := rfl
@[simp] theorem State.addCycle_mem : (s.addCycle).mem = s.mem := rfl
@[simp] theorem State.addCycle_progLen : (s.addCycle).progLen = s.progLen := rfl
@[simp] theorem State.addCycle_latches : (s.addCycle).latches = s.latches := rfl
@[simp] theorem State.addCycle_pt : (s.addCycle).pt = s.pt := rfl
@[simp] theorem State.addCycle_btb : (s.addCycle).btb = s.btb := rfl
@[simp] theorem State.addCycle_cycles : (s.addCycle).cycles = s.cycles + 1 := rfl
@[simp] theorem State.addCycle_stalls : (s.addCycle).stalls = s.stalls := rfl
@[simp] theorem State.addCycle_commits : (s.addCycle).commits = s.commits := rfl
@[simp] theorem State.addCycle_fault : (s.addCycle).fault = s.fault := rfl
@[simp] theorem State.addCycle_illegal : (s.addCycle).illegal = s.illegal := rfl
@[simp] theorem State.addCycle_illegalCount : (s.addCycle).illegalCount = s.illegalCount := rfl
@[simp] theorem State.addCycle_cursor : (s.addCycle).cursor = s.cursor := rfl
@[simp] theorem State.addCycle_predUpdate : (s.addCycle).predUpdate = s.predUpdate := rfl
@[simp] theorem State.addCycle_slotAt (st' : Stage) : (s.addCycle).slotAt st' = s.slotAt st' := rfl
@[simp] theorem State.addCycle_halted : (s.addCycle).halted = s.halted := rfl
@[simp] theorem State.addCycle_ptAt (j : BitVec 4) : (s.addCycle).ptAt j = s.ptAt j := rfl
@[simp] theorem State.addCycle_btbAt (j : BitVec 4) : (s.addCycle).btbAt j = s.btbAt j := rfl
@[simp] theorem State.addStall_regs : (s.addStall).regs = s.regs := rfl
@[simp] theorem State.addStall_pc : (s.addStall).pc = s.pc := rfl
@[simp] theorem State.addStall_mem : (s.addStall).mem = s.mem := rfl
@[simp] theorem State.addStall_progLen : (s.addStall).progLen = s.progLen := rfl
@[simp] theorem State.addStall_latches : (s.addStall).latches = s.latches := rfl
@[simp] theorem State.addStall_pt : (s.addStall).pt = s.pt := rfl
@[simp] theorem State.addStall_btb : (s.addStall).btb = s.btb := rfl
@[simp] theorem State.addStall_cycles : (s.addStall).cycles = s.cycles := rfl
@[simp] theorem State.addStall_stalls : (s.addStall).stalls = s.stalls + 1 := rfl
@[simp] theorem State.addStall_commits : (s.addStall).commits = s.commits := rfl
@[simp] theorem State.addStall_fault : (s.addStall).fault = s.fault := rfl
@[simp] theorem State.addStall_illegal : (s.addStall).illegal = s.illegal := rfl
@[simp] theorem State.addStall_illegalCount : (s.addStall).illegalCount = s.illegalCount := rfl
@[simp] theorem State.addStall_cursor : (s.addStall).cursor = s.cursor := rfl
@[simp] theorem State.addStall_predUpdate : (s.addStall).predUpdate = s.predUpdate := rfl
@[simp] theorem State.addStall_slotAt (st' : Stage) : (s.addStall).slotAt st' = s.slotAt st' := rfl
@[simp] theorem State.addStall_halted : (s.addStall).halted = s.halted := rfl
@[simp] theorem State.addStall_ptAt (j : BitVec 4) : (s.addStall).ptAt j = s.ptAt j := rfl
@[simp] theorem State.addStall_btbAt (j : BitVec 4) : (s.addStall).btbAt j = s.btbAt j := rfl
@[simp] theorem State.addCommit_regs : (s.addCommit).regs = s.regs := rfl
@[simp] theorem State.addCommit_pc : (s.addCommit).pc = s.pc := rfl
@[simp] theorem State.addCommit_mem : (s.addCommit).mem = s.mem := rfl
@[simp] theorem State.addCommit_progLen : (s.addCommit).progLen = s.progLen := rfl
@[simp] theorem State.addCommit_latches : (s.addCommit).latches = s.latches := rfl
@[simp] theorem State.addCommit_pt : (s.addCommit).pt = s.pt := rfl
@[simp] theorem State.addCommit_btb : (s.addCommit).btb = s.btb := rfl
@[simp] theorem State.addCommit_cycles : (s.addCommit).cycles = s.cycles := rfl
@[simp] theorem State.addCommit_stalls : (s.addCommit).stalls = s.stalls := rfl
@[simp] theorem State.addCommit_commits : (s.addCommit).commits = s.commits + 1 := rfl
@[simp] theorem State.addCommit_fault : (s.addCommit).fault = s.fault := rfl
@[simp] theorem State.addCommit_illegal : (s.addCommit).illegal = s.illegal := rfl
@[simp] theorem State.addCommit_illegalCount : (s.addCommit).illegalCount = s.illegalCount := rfl
@[simp] theorem State.addCommit_cursor : (s.addCommit).cursor = s.cursor := rfl
@[simp] theorem State.addCommit_predUpdate : (s.addCommit).predUpdate = s.predUpdate := rfl
@[simp] theorem State.addCommit_slotAt (st' : Stage) : (s.addCommit).slotAt st' = s.slotAt st' := rfl
@[simp] theorem State.addCommit_halted : (s.addCommit).halted = s.halted := rfl
@[simp] theorem State.addCommit_ptAt (j : BitVec 4) : (s.addCommit).ptAt j = s.ptAt j := rfl
@[simp] theorem State.addCommit_btbAt (j : BitVec 4) : (s.addCommit).btbAt j = s.btbAt j := rfl
@[simp] theorem State.reportIllegal_regs : (s.reportIllegal).regs = s.regs := rfl
@[simp] theorem State.reportIllegal_pc : (s.reportIllegal).pc = s.pc := rfl
@[simp] theorem State.reportIllegal_mem : (s.reportIllegal).mem = s.mem := rfl
@[simp] theorem State.reportIllegal_progLen : (s.reportIllegal).progLen = s.progLen := rfl
@[simp] theorem State.reportIllegal_latches : (s.reportIllegal).latches = s.latches := rfl
@[simp] theorem State.reportIllegal_pt : (s.reportIllegal).pt = s.pt := rfl
@[simp] theorem State.reportIllegal_btb : (s.reportIllegal).btb = s.btb := rfl
@[simp] theorem State.reportIllegal_cycles : (s.reportIllegal).cycles = s.cycles := rfl
@[simp] theorem State.reportIllegal_stalls : (s.reportIllegal).stalls = s.stalls := rfl
@[simp] theorem State.reportIllegal_commits : (s.reportIllegal).commits = s.commits := rfl
@[simp] theorem State.reportIllegal_fault : (s.reportIllegal).fault = s.fault := rfl
@[simp] theorem State.reportIllegal_illegal : (s.reportIllegal).illegal = true := rfl
@[simp] theorem State.reportIllegal_illegalCount : (s.reportIllegal).illegalCount = s.illegalCount + 1 := rfl
@[simp] theorem State.reportIllegal_cursor : (s.reportIllegal).cursor = s.cursor := rfl
@[simp] theorem State.reportIllegal_predUpdate : (s.reportIllegal).predUpdate = s.predUpdate := rfl
@[simp] theorem State.reportIllegal_slotAt (st' : Stage) : (s.reportIllegal).slotAt st' = s.slotAt st' := rfl
@[simp] theorem State.reportIllegal_halted : (s.reportIllegal).halted = s.halted := rfl
@[simp] theorem State.reportIllegal_ptAt (j : BitVec 4) : (s.reportIllegal).ptAt j = s.ptAt j := rfl
@[simp] theorem State.reportIllegal_btbAt (j : BitVec 4) : (s.reportIllegal).btbAt j = s.btbAt j := rfl
@[simp] theorem State.setFault_halted (f : FaultRecord) : (s.setFault f).halted = f.cause.isSome := rfl
end updates

/-! ### Latches -/

section latches
variable (L : Latches) (sl : Slot)

@[simp] theorem Latches.get_ifetch : L.get .ifetch = L.ifetch := rfl
@[simp] theorem Latches.get_id : L.get .id = L.id := rfl
@[simp] theorem Latches.get_ia : L.get .ia = L.ia := rfl
@[simp] theorem Latches.get_rr : L.get .rr = L.rr := rfl
@[simp] theorem Latches.get_add : L.get .add = L.add := rfl
@[simp] theorem Latches.get_mul : L.get .mul = L.mul := rfl
@[simp] theorem Latches.get_div : L.get .div = L.div := rfl
@[simp] theorem Latches.get_br : L.get .br = L.br := rfl
@[simp] theorem Latches.get_mem1 : L.get .mem1 = L.mem1 := rfl
@[simp] theorem Latches.get_mem2 : L.get .mem2 = L.mem2 := rfl
@[simp] theorem Latches.get_wb : L.get .wb = L.wb := rfl
@[simp] theorem Latches.set_ifetch_ifetch : (L.set .ifetch sl).ifetch = sl := rfl
@[simp] theorem Latches.set_ifetch_id : (L.set .ifetch sl).id = L.id := rfl
@[simp] theorem Latches.set_ifetch_ia : (L.set .ifetch sl).ia = L.ia := rfl
@[simp] theorem Latches.set_ifetch_rr : (L.set .ifetch sl).rr = L.rr := rfl
@[simp] theorem Latches.set_ifetch_add : (L.set .ifetch sl).add = L.add := rfl
@[simp] theorem Latches.set_ifetch_mul : (L.set .ifetch sl).mul = L.mul := rfl
@[simp] theorem Latches.set_ifetch_div : (L.set .ifetch sl).div = L.div := rfl
@[simp] theorem Latches.set_ifetch_br : (L.set .ifetch sl).br = L.br := rfl
@[simp] theorem Latches.set_ifetch_mem1 : (L.set .ifetch sl).mem1 = L.mem1 := rfl
@[simp] theorem Latches.set_ifetch_mem2 : (L.set .ifetch sl).mem2 = L.mem2 := rfl
@[simp] theorem Latches.set_ifetch_wb : (L.set .ifetch sl).wb = L.wb := rfl
@[simp] theorem Latches.set_id_ifetch : (L.set .id sl).ifetch = L.ifetch := rfl
@[simp] theorem Latches.set_id_id : (L.set .id sl).id = sl := rfl
@[simp] theorem Latches.set_id_ia : (L.set .id sl).ia = L.ia := rfl
@[simp] theorem Latches.set_id_rr : (L.set .id sl).rr = L.rr := rfl
@[simp] theorem Latches.set_id_add : (L.set .id sl).add = L.add := rfl
@[simp] theorem Latches.set_id_mul : (L.set .id sl).mul = L.mul := rfl
@[simp] theorem Latches.set_id_div : (L.set .id sl).div = L.div := rfl
@[simp] theorem Latches.set_id_br : (L.set .id sl).br = L.br := rfl
@[simp] theorem Latches.set_id_mem1 : (L.set .id sl).mem1 = L.mem1 := rfl
@[simp] theorem Latches.set_id_mem2 : (L.set .id sl).mem2 = L.mem2 := rfl
@[simp] theorem Latches.set_id_wb : (L.set .id sl).wb = L.wb := rfl
@[simp] theorem Latches.set_ia_ifetch : (L.set .ia sl).ifetch = L.ifetch := rfl
@[simp] theorem Latches.set_ia_id : (L.set .ia sl).id = L.id := rfl
@[simp] theorem Latches.set_ia_ia : (L.set .ia sl).ia = sl := rfl
@[simp] theorem Latches.set_ia_rr : (L.set .ia sl).rr = L.rr := rfl
@[simp] theorem Latches.set_ia_add : (L.set .ia sl).add = L.add := rfl
@[simp] theorem Latches.set_ia_mul : (L.set .ia sl).mul = L.mul := rfl
@[simp] theorem Latches.set_ia_div : (L.set .ia sl).div = L.div := rfl
@[simp] theorem Latches.set_ia_br : (L.set .ia sl).br = L.br := rfl
@[simp] theorem Latches.set_ia_mem1 : (L.set .ia sl).mem1 = L.mem1 := rfl
@[simp] theorem Latches.set_ia_mem2 : (L.set .ia sl).mem2 = L.mem2 := rfl
@[simp] theorem Latches.set_ia_wb : (L.set .ia sl).wb = L.wb := rfl
@[simp] theorem Latches.set_rr_ifetch : (L.set .rr sl).ifetch = L.ifetch := rfl
@[simp] theorem Latches.set_rr_id : (L.set .rr sl).id = L.id := rfl
@[simp] theorem Latches.set_rr_ia : (L.set .rr sl).ia = L.ia := rfl
@[simp] theorem Latches.set_rr_rr : (L.set .rr sl).rr = sl := rfl
@[simp] theorem Latches.set_rr_add : (L.set .rr sl).add = L.add := rfl
@[simp] theorem Latches.set_rr_mul : (L.set .rr sl).mul = L.mul := rfl
@[simp] theorem Latches.set_rr_div : (L.set .rr sl).div = L.div := rfl
@[simp] theorem Latches.set_rr_br : (L.set .rr sl).br = L.br := rfl
@[simp] theorem Latches.set_rr_mem1 : (L.set .rr sl).mem1 = L.mem1 := rfl
@[simp] theorem Latches.set_rr_mem2 : (L.set .rr sl).mem2 = L.mem2 := rfl
@[simp] theorem Latches.set_rr_wb : (L.set .rr sl).wb = L.wb := rfl
@[simp] theorem Latches.set_add_ifetch : (L.set .add sl).ifetch = L.ifetch := rfl
@[simp] theorem Latches.set_add_id : (L.set .add sl).id = L.id := rfl
@[simp] theorem Latches.set_add_ia : (L.set .add sl).ia = L.ia := rfl
@[simp] theorem Latches.set_add_rr : (L.set .add sl).rr = L.rr := rfl
@[simp] theorem Latches.set_add_add : (L.set .add sl).add = sl := rfl
@[simp] theorem Latches.set_add_mul : (L.set .add sl).mul = L.mul := rfl
@[simp] theorem Latches.set_add_div : (L.set .add sl).div = L.div := rfl
@[simp] theorem Latches.set_add_br : (L.set .add sl).br = L.br := rfl
@[simp] theorem Latches.set_add_mem1 : (L.set .add sl).mem1 = L.mem1 := rfl
@[simp] theorem Latches.set_add_mem2 : (L.set .add sl).mem2 = L.mem2 := rfl
@[simp] theorem Latches.set_add_wb : (L.set .add sl).wb = L.wb := rfl
@[simp] theorem Latches.set_mul_ifetch : (L.set .mul sl).ifetch = L.ifetch := rfl
@[simp] theorem Latches.set_mul_id : (L.set .mul sl).id = L.id := rfl
@[simp] theorem Latches.set_mul_ia : (L.set .mul sl).ia = L.ia := rfl
@[simp] theorem Latches.set_mul_rr : (L.set .mul sl).rr = L.rr := rfl
@[simp] theorem Latches.set_mul_add : (L.set .mul sl).add = L.add := rfl
@[simp] theorem Latches.set_mul_mul : (L.set .mul sl).mul = sl := rfl
@[simp] theorem Latches.set_mul_div : (L.set .mul sl).div = L.div := rfl
@[simp] theorem Latches.set_mul_br : (L.set .mul sl).br = L.br := rfl
@[simp] theorem Latches.set_mul_mem1 : (L.set .mul sl).mem1 = L.mem1 := rfl
@[simp] theorem Latches.set_mul_mem2 : (L.set .mul sl).mem2 = L.mem2 := rfl
@[simp] theorem Latches.set_mul_wb : (L.set .mul sl).wb = L.wb := rfl
@[simp] theorem Latches.set_div_ifetch : (L.set .div sl).ifetch = L.ifetch := rfl
@[simp] theorem Latches.set_div_id : (L.set .div sl).id = L.id := rfl
@[simp] theorem Latches.set_div_ia : (L.set .div sl).ia = L.ia := rfl
@[simp] theorem Latches.set_div_rr : (L.set .div sl).rr = L.rr := rfl
@[simp] theorem Latches.set_div_add : (L.set .div sl).add = L.add := rfl
@[simp] theorem Latches.set_div_mul : (L.set .div sl).mul = L.mul := rfl
@[simp] theorem Latches.set_div_div : (L.set .div sl).div = sl := rfl
@[simp] theorem Latches.set_div_br : (L.set .div sl).br = L.br := rfl
@[simp] theorem Latches.set_div_mem1 : (L.set .div sl).mem1 = L.mem1 := rfl
@[simp] theorem Latches.set_div_mem2 : (L.set .div sl).mem2 = L.mem2 := rfl
@[simp] theorem Latches.set_div_wb : (L.set .div sl).wb = L.wb := rfl
@[simp] theorem Latches.set_br_ifetch : (L.set .br sl).ifetch = L.ifetch := rfl
@[simp] theorem Latches.set_br_id : (L.set .br sl).id = L.id := rfl
@[simp] theorem Latches.set_br_ia : (L.set .br sl).ia = L.ia := rfl
@[simp] theorem Latches.set_br_rr : (L.set .br sl).rr = L.rr := rfl
@[simp] theorem Latches.set_br_add : (L.set .br sl).add = L.add := rfl
@[simp] theorem Latches.set_br_mul : (L.set .br sl).mul = L.mul := rfl
@[simp] theorem Latches.set_br_div : (L.set .br sl).div = L.div := rfl
@[simp] theorem Latches.set_br_br : (L.set .br sl).br = sl := rfl
@[simp] theorem Latches.set_br_mem1 : (L.set .br sl).mem1 = L.mem1 := rfl
@[simp] theorem Latches.set_br_mem2 : (L.set .br sl).mem2 = L.mem2 := rfl
@[simp] theorem Latches.set_br_wb : (L.set .br sl).wb = L.wb := rfl
@[simp] theorem Latches.set_mem1_ifetch : (L.set .mem1 sl).ifetch = L.ifetch := rfl
@[simp] theorem Latches.set_mem1_id : (L.set .mem1 sl).id = L.id := rfl
@[simp] theorem Latches.set_mem1_ia : (L.set .mem1 sl).ia = L.ia := rfl
@[simp] theorem Latches.set_mem1_rr : (L.set .mem1 sl).rr = L.rr := rfl
@[simp] theorem Latches.set_mem1_add : (L.set .mem1 sl).add = L.add := rfl
@[simp] theorem Latches.set_mem1_mul : (L.set .mem1 sl).mul = L.mul := rfl
@[simp] theorem Latches.set_mem1_div : (L.set .mem1 sl).div = L.div := rfl
@[simp] theorem Latches.set_mem1_br : (L.set .mem1 sl).br = L.br := rfl
@[simp] theorem Latches.set_mem1_mem1 : (L.set .mem1 sl).mem1 = sl := rfl
@[simp] theorem Latches.set_mem1_mem2 : (L.set .mem1 sl).mem2 = L.mem2 := rfl
@[simp] theorem Latches.set_mem1_wb : (L.set .mem1 sl).wb = L.wb := rfl
@[simp] theorem Latches.set_mem2_ifetch : (L.set .mem2 sl).ifetch = L.ifetch := rfl
@[simp] theorem Latches.set_mem2_id : (L.set .mem2 sl).id = L.id := rfl
@[simp] theorem Latches.set_mem2_ia : (L.set .mem2 sl).ia = L.ia := rfl
@[simp] theorem Latches.set_mem2_rr : (L.set .mem2 sl).rr = L.rr := rfl
@[simp] theorem Latches.set_mem2_add : (L.set .mem2 sl).add = L.add := rfl
@[simp] theorem Latches.set_mem2_mul : (L.set .mem2 sl).mul = L.mul := rfl
@[simp] theorem Latches.set_mem2_div : (L.set .mem2 sl).div = L.div := rfl
@[simp] theorem Latches.set_mem2_br : (L.set .mem2 sl).br = L.br := rfl
@[simp] theorem Latches.set_mem2_mem1 : (L.set .mem2 sl).mem1 = L.mem1 := rfl
@[simp] theorem Latches.set_mem2_mem2 : (L.set .mem2 sl).mem2 = sl := rfl
@[simp] theorem Latches.set_mem2_wb : (L.set .mem2 sl).wb = L.wb := rfl
@[simp] theorem Latches.set_wb_ifetch : (L.set .wb sl).ifetch = L.ifetch := rfl
@[simp] theorem Latches.set_wb_id : (L.set .wb sl).id = L.id := rfl
@[simp] theorem Latches.set_wb_ia : (L.set .wb sl).ia = L.ia := rfl
@[simp] theorem Latches.set_wb_rr : (L.set .wb sl).rr = L.rr := rfl
@[simp] theorem Latches.set_wb_add : (L.set .wb sl).add = L.add := rfl
@[simp] theorem Latches.set_wb_mul : (L.set .wb sl).mul = L.mul := rfl
@[simp] theorem Latches.set_wb_div : (L.set .wb sl).div = L.div := rfl
@[simp] theorem Latches.set_wb_br : (L.set .wb sl).br = L.br := rfl
@[simp] theorem Latches.set_wb_mem1 : (L.set .wb sl).mem1 = L.mem1 := rfl
@[simp] theorem Latches.set_wb_mem2 : (L.set .wb sl).mem2 = L.mem2 := rfl
@[simp] theorem Latches.set_wb_wb : (L.set .wb sl).wb = sl := rfl

theorem Latches.get_set_same (st : Stage) : (L.set st sl).get st = sl := by cases st <;> rfl

theorem Latches.get_set_other {st st' : Stage} (h : st' ≠ st) : (L.set st sl).get st' = L.get st' := by
  cases st <;> cases st' <;> first | rfl | exact absurd rfl h
end latches

theorem State.slotAt_setLatch_same (s : State) (st : Stage) (sl : Slot) : (s.setLatch st sl).slotAt st = sl :=
  s.latches.get_set_same sl st

theorem State.slotAt_setLatch_other (s : State) {st st' : Stage} (sl : Slot) (h : st' ≠ st) :
    (s.setLatch st sl).slotAt st' = s.slotAt st' := s.latches.get_set_other sl h

/-- A latch after one of them is overwritten. -/
theorem State.slotAt_setLatch (s : State) (st st' : Stage) (sl : Slot) :
    (s.setLatch st sl).slotAt st' = if st' = st then sl else s.slotAt st' := by
  split
  · next h => subst h; exact s.slotAt_setLatch_same _ sl
  · next h => exact s.slotAt_setLatch_other sl h

end Sys2Proof.Machine
end

