-- ==== Sys2Proof/Laws/Ops.lean ====
section
/-! SUPPORT. One lemma per shared operation that says once what it can do. -/

namespace Sys2Proof.Machine

/-! ### Registers and memory -/

theorem readReg_of_lt {i : Word} (s : State) (h : i.toNat < 16) : readReg i s = .ok s.regs[i.toNat] := by simp [readReg, h]

theorem readReg_of_ge {i : Word} (s : State) (h : 16 ≤ i.toNat) : readReg i s = .error .regIndex := by
  simp [readReg, Nat.not_lt.mpr h]

theorem writeReg_of_lt {i : Word} (v : Word) (s : State) (h : i.toNat < 16) :
    writeReg i v s = .ok (s.setRegs (s.regs.set i.toNat v)) := by simp [writeReg, h]

theorem writeReg_of_ge {i : Word} (v : Word) (s : State) (h : 16 ≤ i.toNat) : writeReg i v s = .error .regIndex := by
  simp [writeReg, Nat.not_lt.mpr h]

theorem memRead_of_lt {a : Word} (s : State) (h : a.toNat < 65536) : memRead a s = .ok (readCell s.mem a.toNat) := by
  simp [memRead, h]

theorem memRead_of_ge {a : Word} (s : State) (h : 65536 ≤ a.toNat) : memRead a s = .error .memIndex := by
  simp [memRead, Nat.not_lt.mpr h]

theorem memWrite_of_lt {a : Word} (v : Word) (s : State) (h : a.toNat < 65536) :
    memWrite a v s = .ok (s.setMem (writeCell s.mem a.toNat v)) := by simp [memWrite, h]

theorem memWrite_of_ge {a : Word} (v : Word) (s : State) (h : 65536 ≤ a.toNat) : memWrite a v s = .error .memIndex := by
  simp [memWrite, Nat.not_lt.mpr h]

/-- Zero extension keeps the number. -/
@[simp] theorem zext8_toNat (f : Byte) : (zext8 f).toNat = f.toNat := by
  simp only [zext8, BitVec.toNat_setWidth]
  exact Nat.mod_eq_of_lt (Nat.lt_trans f.isLt (by decide))

/-- An index in 0..15 unsigned is one in 0..15 signed (00_scope.md R7, 43_set_arith.md R140). -/
theorem toNat_lt_16_iff (a : Word) : a.toNat < 16 ↔ 0 ≤ a.toInt ∧ a.toInt ≤ 15 := by
  have := a.isLt
  simp only [BitVec.toInt_eq_toNat_cond]
  split <;> omega

theorem readSources_of_lt {a b : Word} (s : State) (ha : a.toNat < 16) (hb : b.toNat < 16) :
    readSources a b s = .ok (s.regs[a.toNat], s.regs[b.toNat]) := by
  simp [readSources, readReg_of_lt s ha, readReg_of_lt s hb]

theorem readSources_of_ge {a b : Word} (s : State) (h : 16 ≤ a.toNat ∨ 16 ≤ b.toNat) :
    readSources a b s = .error .regIndex := by
  by_cases ha : a.toNat < 16
  · have hb : 16 ≤ b.toNat := by omega
    simp [readSources, readReg_of_lt s ha, readReg_of_ge s hb]
  · simp [readSources, readReg_of_ge s (Nat.not_lt.mp ha)]

/-! ### Faults -/

/-- An operation that may raise either went on with its value or took the fault. -/
theorem orFault_cases {α : Type} (r : Except FaultCause α) (s : State) (go : α → State) :
    (∃ v, r = .ok v ∧ orFault r s go = go v) ∨ (∃ c, r = .error c ∧ orFault r s go = raiseFault c s) := by
  cases r with
  | ok v => exact .inl ⟨v, rfl, rfl⟩
  | error c => exact .inr ⟨c, rfl, rfl⟩

@[simp] theorem orFault_ok {α : Type} (v : α) (s : State) (go : α → State) : orFault (.ok v) s go = go v := rfl

@[simp] theorem orFault_error {α : Type} (c : FaultCause) (s : State) (go : α → State) :
    orFault (.error c) s go = raiseFault c s := rfl

@[simp] theorem raiseFault_halted (c : FaultCause) (s : State) : (raiseFault c s).halted = true := rfl

@[simp] theorem raiseFault_fault (c : FaultCause) (s : State) :
    (raiseFault c s).fault = ⟨some c, s.cursor, (s.slotAt s.cursor).fpc⟩ := rfl

/-! ### Latches -/

theorem deliver_eq {s : State} {n : Stage} (sl : Slot) (h : s.cursor.next? = some n) : deliver sl s = s.setLatch n sl := by
  simp [deliver, h]

theorem deliver_leaves {s : State} (sl : Slot) (h : s.cursor.next? = none) : deliver sl s = s := by simp [deliver, h]

theorem passOn_eq {s : State} {n : Stage} (i : Instr) (h : s.cursor.next? = some n) :
    passOn i s = s.setLatch n (.ofFields i.fields (s.slotAt s.cursor).fpc) := deliver_eq _ h

/-- WB of a register-writing instruction with a destination in range. -/
theorem commitResult_of_lt {d : Byte} (v : Word) (s : State) (h : d.toNat < 16) :
    commitResult d v s = (s.setRegs (s.regs.set d.toNat v)).addCommit := by
  have h' : (zext8 d).toNat < 16 := by simpa using h
  simp [commitResult, writeReg_of_lt v s h']

/-- WB of a register-writing instruction with a destination out of range. -/
theorem commitResult_of_ge {d : Byte} (v : Word) (s : State) (h : 16 ≤ d.toNat) :
    commitResult d v s = raiseFault .regIndex s := by
  have h' : 16 ≤ (zext8 d).toNat := by simpa using h
  simp [commitResult, writeReg_of_ge v s h']

/-! ### Fetch and the predictor -/

theorem hazard_iff (l : Word) (s : State) :
    hazard l s = true ↔ (s.slotAt .rr).valid = true ∧ l = zext8 (s.slotAt .rr).dest := by simp [hazard]

theorem admitMemory_of_hazard {i : Instr} {s : State} (h : hazard i.left s = true) : admitMemory i s = s.addStall := by
  simp [admitMemory, h]

theorem admitMemory_of_no_hazard {i : Instr} {s : State} (h : hazard i.left s = false) : admitMemory i s = admitInstr i s := by
  simp [admitMemory, h]

/-- What an update of the predictor leaves alone. -/
theorem predUpdateAt_frame (a : Word) (c : Bool) (t : Word) (s : State) :
    ∃ p b, predUpdateAt a c t s = { s with pt := p, btb := b } := by
  cases c
  · exact ⟨_, s.btb, rfl⟩
  · exact ⟨_, _, rfl⟩

/-- What the BR action leaves alone. -/
theorem resolve_frame (c : Bool) (t : Word) (s : State) :
    ∃ q p b, resolve c t s = { s with pc := q, pt := p, btb := b } := by
  have key : ∀ u : State, ∃ p b, (if u.predUpdate then predUpdateAt (s.slotAt s.cursor).fpc c t u else u) = { u with pt := p, btb := b } := by
    intro u
    split
    · exact predUpdateAt_frame _ c t u
    · exact ⟨u.pt, u.btb, rfl⟩
  cases c with
  | false => obtain ⟨p, b, h⟩ := key s; exact ⟨s.pc, p, b, h⟩
  | true => obtain ⟨p, b, h⟩ := key (s.setPc t); exact ⟨t, p, b, h⟩

/-! ### The step -/

theorem thenUnlessHalted_next {t : State} (go : State → Host.Outcome State Fault Refusal) (h : t.halted = false) :
    thenUnlessHalted (.next t) go = go t := by simp [thenUnlessHalted, h]

theorem thenUnlessHalted_halted {t : State} (go : State → Host.Outcome State Fault Refusal) (h : t.halted = true) :
    thenUnlessHalted (.next t) go = .next t := by simp [thenUnlessHalted, h]

/-- A bubble moves and does nothing (40_pipeline_cycle.md R93). -/
theorem runStage_bubble {st : Stage} {s : State} (h : (s.slotAt st).valid = false) :
    runStage st s = .next (deliver (s.slotAt st) (s.setCursor st)) := by simp [runStage, h]

/-- A valid slot's action is that of its instruction. -/
theorem runStage_valid {st : Stage} {s : State} {i : Instr} (h : (s.slotAt st).valid = true)
    (hi : (s.slotAt st).fields.instr? = some i) : runStage st s = exec i (s.setCursor st) := by simp [runStage, h, hi]

/-- A valid slot with an opcode outside the set. -/
theorem runStage_illegal {st : Stage} {s : State} (h : (s.slotAt st).valid = true)
    (hi : (s.slotAt st).fields.instr? = none) : runStage st s = .next (illegalStage (s.slotAt st).fields (s.setCursor st)) := by
  simp [runStage, h, hi]

/-- What a step can do when it answers a next state: hold a finished machine, or end a traversal. -/
theorem step_cases {s t : State} (h : step s = .next t) :
    s.progLen ≤ 65536 ∧ s.fault.cause = none ∧
      ((s.done = true ∧ t = s) ∨ (s.done = false ∧ ∃ u, traversal s = .next u ∧ t = endCycle s u)) := by
  unfold step cycle at h
  split at h
  · exact absurd h (by simp)
  · next hl =>
    have hl' : s.progLen ≤ 65536 := Nat.not_lt.mp hl
    split at h
    · exact absurd h (by simp)
    · next hc =>
      refine ⟨hl', hc, ?_⟩
      split at h
      · next hd => exact .inl ⟨hd, by simpa using h.symm⟩
      · next hd =>
        have hd' : s.done = false := by simpa using hd
        split at h
        · next u hu => exact .inr ⟨hd', u, hu, by simpa using h.symm⟩
        · exact absurd h (by simp)
        · exact absurd h (by simp)

end Sys2Proof.Machine
end

