-- ==== Sys2Proof/Laws/PerInstr.lean ====
section
/-! SUPPORT. Facts about every instruction as syntax, one lemma per constructor. -/

namespace Sys2Proof.Laws

/-- The opcode map read both ways (30_encoding.md R74): an instruction's opcode number is at most 12, and the record of an instruction
names that instruction again. -/
def FieldsName.Statement (i : Instr) : Prop := i.opcode.toNat ≤ 12 ∧ i.fields.instr? = some i

theorem FieldsName.set (d : Byte) (l r : Word) : FieldsName.Statement (.set d l r) := ⟨by simp [Instr.opcode], rfl⟩
theorem FieldsName.add (d : Byte) (l r : Word) : FieldsName.Statement (.add d l r) := ⟨by simp [Instr.opcode], rfl⟩
theorem FieldsName.sub (d : Byte) (l r : Word) : FieldsName.Statement (.sub d l r) := ⟨by simp [Instr.opcode], rfl⟩
theorem FieldsName.mul (d : Byte) (l r : Word) : FieldsName.Statement (.mul d l r) := ⟨by simp [Instr.opcode], rfl⟩
theorem FieldsName.div (d : Byte) (l r : Word) : FieldsName.Statement (.div d l r) := ⟨by simp [Instr.opcode], rfl⟩
theorem FieldsName.ld (d : Byte) (l r : Word) : FieldsName.Statement (.ld d l r) := ⟨by simp [Instr.opcode], rfl⟩
theorem FieldsName.st (d : Byte) (l r : Word) : FieldsName.Statement (.st d l r) := ⟨by simp [Instr.opcode], rfl⟩
theorem FieldsName.bez (d : Byte) (l r : Word) : FieldsName.Statement (.bez d l r) := ⟨by simp [Instr.opcode], rfl⟩
theorem FieldsName.bgez (d : Byte) (l r : Word) : FieldsName.Statement (.bgez d l r) := ⟨by simp [Instr.opcode], rfl⟩
theorem FieldsName.blez (d : Byte) (l r : Word) : FieldsName.Statement (.blez d l r) := ⟨by simp [Instr.opcode], rfl⟩
theorem FieldsName.bgtz (d : Byte) (l r : Word) : FieldsName.Statement (.bgtz d l r) := ⟨by simp [Instr.opcode], rfl⟩
theorem FieldsName.bltz (d : Byte) (l r : Word) : FieldsName.Statement (.bltz d l r) := ⟨by simp [Instr.opcode], rfl⟩
theorem FieldsName.ret (d : Byte) (l r : Word) : FieldsName.Statement (.ret d l r) := ⟨by simp [Instr.opcode], rfl⟩

end Sys2Proof.Laws
end

