-- ==== Sys2Proof/Tests/Slice0.lean ====
section
/-! SUPPORT. Tests with expected results taken from 95_test_vectors.md (V-…) and the worked examples of the rules, and one witness for
every statement that has hypotheses. Each runs at most one step on a small state; the few witnesses of whole runs use short ones. -/

namespace Sys2Proof.Tests

open Sys2Proof.Machine

/-! ### Helpers -/

/-- The state of an outcome that is a next state; `s` otherwise. -/
def nextOr (s : State) : Host.Outcome State Fault Refusal → State
  | .next t => t
  | .fault _ => s
  | .refused _ => s

/-- The state after one step. -/
def after (s : State) : State := nextOr s (step s)

/-- A program of one word at address 0, nothing in flight. -/
def fetches (w : Word) : State := State.boot (writeCell [] 0 w) 1 false

/-- Nothing to fetch, one slot in the latch of a stage. -/
def holds (st : Stage) (sl : Slot) : State := { State.boot [] 0 false with latches := Latches.empty.set st sl }

/-- A state whose traversal is at a stage. -/
def atStage (st : Stage) : State := { State.boot [] 0 false with cursor := st }

/-- A valid slot fetched from address 0. -/
def slot (op d : Byte) (l r : Word) : Slot := ⟨true, op, d, l, r, 0⟩

/-! ### WellFormed: the smoke tests -/

theorem test_wellFormed_bounds : (Instr.set 255 (-128) 127).WellFormed := by decide
theorem test_left_above_refused : ¬ (Instr.set 1 128 0).WellFormed := by decide
theorem test_left_below_refused : ¬ (Instr.st 0 (-129) 0).WellFormed := by decide
theorem test_right_above_refused : ¬ (Instr.add 1 0 128).WellFormed := by decide
theorem test_right_below_refused : ¬ (Instr.ret 0 0 (-129)).WellFormed := by decide
theorem test_encodable_left_refused : ¬ (Fields.Encodable ⟨0, 0, 128, 0⟩) := by decide
theorem test_encodable_right_refused : ¬ (Fields.Encodable ⟨0, 0, 0, 128⟩) := by decide

/-! ### Decode: every constructor, on the words of V-DEC -/

theorem test_decode_set : decode 0x00010500 = .ok (.set 1 5 0) := by decide
theorem test_decode_set_negative : decode 0x0001FD00 = .ok (.set 1 0xFFFFFFFD 0) := by decide
theorem test_decode_add : decode 0x01030102 = .ok (.add 3 1 2) := by decide
theorem test_decode_sub : decode 0x02010102 = .ok (.sub 1 1 2) := by decide
theorem test_decode_mul : decode 0x03030102 = .ok (.mul 3 1 2) := by decide
theorem test_decode_div : decode 0x04030102 = .ok (.div 3 1 2) := by decide
theorem test_decode_ld : decode 0x05042828 = .ok (.ld 4 40 40) := by decide
theorem test_decode_st : decode 0x06002863 = .ok (.st 0 40 99) := by decide
theorem test_decode_bez : decode 0x07014400 = .ok (.bez 1 0x44 0) := by decide
theorem test_decode_bgez : decode 0x08021000 = .ok (.bgez 2 0x10 0) := by decide
theorem test_decode_blez : decode 0x09021000 = .ok (.blez 2 0x10 0) := by decide
theorem test_decode_bgtz : decode 0x0A012800 = .ok (.bgtz 1 0x28 0) := by decide
theorem test_decode_bltz : decode 0x0B032000 = .ok (.bltz 3 0x20 0) := by decide
theorem test_decode_ret : decode 0x0C000000 = .ok (.ret 0 0 0) := by decide
theorem test_decode_zero_cell : decode 0 = .ok (.set 0 0 0) := by decide
theorem test_decode_lowest_illegal : decode 0x0D000000 = .error (.illegalOpcode 13) := by decide
theorem test_decode_all_ones : decodeFields 0xFFFFFFFF = ⟨255, 255, 0xFFFFFFFF, 0xFFFFFFFF⟩ := by decide
theorem test_decode_data_word : decodeFields 0x12345678 = ⟨18, 0x34, 0x56, 0x78⟩ := by decide
theorem test_decode_dest_16 : decode 0x0010807F = .ok (.set 16 0xFFFFFF80 0x7F) := by decide
theorem test_encode_set_negative : encode (.set 1 0xFFFFFFFD 0) = 0x0001FD00 := by decide

/-! ### The host's interface -/

theorem test_decodeTableWord : decodeTableWord 32 0x05042828 = some (.ld 4 40 40) := by decide
theorem test_decodeTableWord_illegal : decodeTableWord 32 0x0D000000 = none := by decide

/-- The placed word is what the very next step admits. -/
theorem test_withFetchWord_runs :
    (after (State.reset.withFetchWord 32 0x05042828)).latches.ifetch = ⟨true, 5, 4, 40, 40, 0⟩ := by decide

/-! ### SET (V-SET-5, V-SET-1) -/

theorem test_set_copies_immediate : (after (holds .ia (slot 0 1 5 0xFFFFFFAA))).latches.rr = slot 0 1 5 5 := by decide
theorem test_set_writes : (after (holds .wb (slot 0 1 5 5))).regs[1] = 5 ∧ (after (holds .wb (slot 0 1 5 5))).commits = 1 := by decide

/-! ### ADD, SUB, MUL, DIV -/

/-- `add r3 r1 r1` with `x[1] = 4`: both sources read, then summed. -/
theorem test_add_reads_one_register_twice :
    (after { holds .rr (slot 1 3 1 1) with regs := (Vector.replicate 16 0).set 1 4 }).latches.add = slot 1 3 4 4 := by decide
theorem test_add_overflows : (after (holds .add (slot 1 3 0x7FFFFFFF 1))).latches.mul = slot 1 3 0x7FFFFFFF 0x80000000 := by decide
theorem test_sub_below_zero : (after (holds .add (slot 2 3 0 1))).latches.mul = slot 2 3 0 0xFFFFFFFF := by decide
theorem test_sub_wraps : (after (holds .add (slot 2 3 0x80000000 1))).latches.mul.right = 0x7FFFFFFF := by decide
theorem test_mul_negative : (after (holds .mul (slot 3 3 0xFFFFFFFD 5))).latches.div = slot 3 3 0xFFFFFFFD 0xFFFFFFF1 := by decide
theorem test_mul_low_half : (after (holds .mul (slot 3 3 0x00010000 0x00010000))).latches.div.right = 0 := by decide
theorem test_div_rounds_toward_zero : (after (holds .div (slot 4 3 0xFFFFFFF9 2))).latches.br = slot 4 3 0xFFFFFFF9 0xFFFFFFFD := by decide
theorem test_div_overflow : (after (holds .div (slot 4 3 0x80000000 0xFFFFFFFF))).latches.br.right = 0x80000000 := by decide

/-! ### LD and ST (V-MEM-1, V-MEM-7, V-MEM-4, V-MEM-8) -/

theorem test_ld_reads_cell :
    (after { holds .mem2 (slot 5 4 40 40) with mem := writeCell [] 40 99 }).latches.wb = slot 5 4 40 99 := by decide
theorem test_ld_negative_index : (after (holds .mem2 (slot 5 4 0 0xFFFFFFFF))).fault = ⟨some .memIndex, .mem2, 0⟩ := by decide
theorem test_st_writes_cell : readCell (after (holds .mem1 (slot 6 0 40 0xFFFFFFFF))).mem 40 = 0xFFFFFFFF := by decide

/-- LD in Mem2 and ST in Mem1 in one cycle: the load reads the old 7, the cell then holds 9. -/
def loadOverStore : State :=
  { State.boot (writeCell [] 40 7) 0 false with
    latches := { Latches.empty with mem2 := slot 5 4 40 40, mem1 := slot 6 0 40 9 } }
theorem test_ld_before_st : (after loadOverStore).latches.wb.right = 7 ∧ readCell (after loadOverStore).mem 40 = 9 := by decide

/-! ### Branches (V-BR-1 to V-BR-5, V-BR-8, V-BR-9) -/

def branchValues : List Word := [0, 1, 0x7FFFFFFF, 0x80000000, 0xFFFFFFFF]
theorem test_bez_condition : branchValues.map condEZ = [true, false, false, false, false] := by decide
theorem test_bgez_condition : branchValues.map condGEZ = [true, true, true, false, false] := by decide
theorem test_blez_condition : branchValues.map condLEZ = [true, false, false, true, true] := by decide
theorem test_bgtz_condition : branchValues.map condGTZ = [false, true, true, false, false] := by decide
theorem test_bltz_condition : branchValues.map condLTZ = [false, false, false, true, true] := by decide
theorem test_bez_reads_dest :
    (after { holds .rr (slot 7 15 0x44 0) with regs := (Vector.replicate 16 0).set 15 9 }).latches.add = slot 7 15 0x44 9 := by decide
theorem test_bgez_to_high_target : (after (holds .br (slot 8 0 0xFFFFFFFC 0))).pc = 0xFFFFFFFC := by decide
theorem test_blez_not_taken : (after (holds .br (slot 9 2 0x10 1))).pc = 0 := by decide
theorem test_bgtz_taken : (after (holds .br (slot 10 1 0x28 1))).pc = 0x28 := by decide
theorem test_bltz_taken : (after (holds .br (slot 11 3 0x20 0xFFFFFFFD))).pc = 0x20 := by decide
theorem test_branch_dest_16 : (after (holds .rr (slot 7 16 0 0))).fault = ⟨some .regIndex, .rr, 0⟩ := by decide

/-- With PRED_UPDATE true the outcome is recorded under the branch's own address (V-PRED-3). -/
theorem test_branch_updates_predictor :
    ((after { holds .br ⟨true, 10, 1, 0x28, 1, 0x48⟩ with predUpdate := true }).ptAt 2,
      (after { holds .br ⟨true, 10, 1, 0x28, 1, 0x48⟩ with predUpdate := true }).btbAt 2) = (1, 0x28) := by decide

/-! ### RET -/

theorem test_ret_commits_alone : (after (holds .wb (slot 12 1 5 5))).regs[1] = 0 ∧ (after (holds .wb (slot 12 1 5 5))).commits = 1 := by decide

/-! ### The predictor (V-PRED) -/

/-- `pt[2] = c`, `btb[2] = t`, all else as after reset. -/
def tables (c : BitVec 2) (t : Word) : State := (State.reset.setPt 2 c).setBtb 2 t

theorem test_index : [0x48, 0x08, 0x88, 0x4A, 0x3C, 0x40].map predIndex = [2, 2, 2, 2, 15, 0] := by decide
theorem test_predict_at_reset : predict 0x48 State.reset = (false, 0x4C) := by decide
theorem test_predict_aliased : predict 0x48 (tables 2 0x28) = (true, 0x28) ∧ predict 0x08 (tables 2 0x28) = (true, 0x28) := by decide
theorem test_predict_weak : predict 0x48 (tables 1 0x28) = (false, 0x4C) := by decide
theorem test_predict_unwritten_target : predict 0x48 (tables 3 0) = (true, 0) := by decide
theorem test_update_taken_saturates : predUpdateAt 0x48 true 0x30 (tables 3 0x28) = tables 3 0x30 := by decide
theorem test_update_not_taken : predUpdateAt 0x48 false 0x30 (tables 2 0x28) = tables 1 0x28 := by decide
theorem test_update_not_taken_saturates : predUpdateAt 0x48 false 0x30 (tables 0 0x28) = tables 0 0x28 := by decide

/-! ### The hazard unit (V-HAZ-1 to V-HAZ-7): the slot IA passes on in the cycle of the fetch -/

/-- A slot in IA, a word to fetch: whether the cycle stalls, and whether the fetch admits. -/
def hazardCase (sl : Slot) (w : Word) : Bool × Bool :=
  let s := { fetches w with latches := { Latches.empty with ia := sl } }
  (decide ((after s).stalls = 1), (after s).latches.ifetch.valid)

theorem test_hazard_ld : hazardCase (slot 0 5 9 0) 0x05060532 = (true, false) := by decide
theorem test_hazard_st : hazardCase (slot 0 5 9 0) 0x06000501 = (true, false) := by decide
theorem test_hazard_other_left : hazardCase (slot 0 5 9 0) 0x05063232 = (false, true) := by decide
theorem test_hazard_bubble : hazardCase .empty 0x05060000 = (false, true) := by decide
theorem test_hazard_any_opcode : hazardCase (slot 12 0 0 0) 0x05060000 = (true, false) := by decide
theorem test_hazard_only_memory : hazardCase (slot 0 5 9 0) 0x01030505 = (false, true) := by decide
theorem test_hazard_extensions_differ : hazardCase (slot 0 255 9 0) 0x0506FF00 = (false, true) := by decide
theorem test_hazard_not_illegal : hazardCase (slot 0 0x56 0 0) 0x12345678 = (false, true) := by decide

/-! ### Illegal opcodes (V-ILL-1) and faults (V-FLT-4, V-FLT-5, V-DIV-10, V-FLT-3, V-MEM-6) -/

theorem test_illegal_dropped :
    (after (holds .id (slot 18 0x34 0x56 0x78))).latches.ia = .empty ∧ (after (holds .id (slot 18 0x34 0x56 0x78))).illegal = true ∧
      (after (holds .id (slot 18 0x34 0x56 0x78))).illegalCount = 1 := by decide
theorem test_div_by_zero : after (holds .div (slot 4 3 5 0)) = { holds .div (slot 4 3 5 0) with fault := ⟨some .divZero, .div, 0⟩ } := by decide
theorem test_add_source_16 : (after (holds .rr (slot 1 3 16 2))).fault = ⟨some .regIndex, .rr, 0⟩ := by decide
theorem test_add_source_negative : (after (holds .rr (slot 1 3 0xFFFFFFFF 2))).fault = ⟨some .regIndex, .rr, 0⟩ := by decide
theorem test_st_negative_index : after (holds .mem1 (slot 6 0 0xFFFFFFFF 1)) =
    { holds .mem1 (slot 6 0 0xFFFFFFFF 1) with fault := ⟨some .memIndex, .mem1, 0⟩ } := by decide

/-- `set r16 5` in WB and a DIV by zero in Div: WB is first. -/
def twoFaults : State :=
  { State.boot [] 0 false with latches := { Latches.empty with wb := ⟨true, 0, 16, 5, 5, 4⟩, div := ⟨true, 4, 3, 1, 0, 16⟩ } }
theorem test_fault_priority : (after twoFaults).fault = ⟨some .regIndex, .wb, 4⟩ ∧ (after twoFaults).fault.code = 2 ∧
    (after twoFaults).fault.stage.number = 10 := by decide
theorem test_fault_order : faultOf twoFaults = some ⟨some .regIndex, .wb, 4⟩ := by decide

/-! ### Runs (V-RUN-1) and the refusal of a PROG_LEN that is too long -/

theorem test_empty_program_is_done : State.reset.done = true := by decide
theorem test_progLen_refused : step { State.reset with progLen := 65537 } = .refused .programTooLong := by rfl

/-! ### Witnesses: for every statement with hypotheses, concrete values that meet them, clause by clause

A theorem `witness_X` is about `Obligations.X`. Where the clauses of a statement exclude each other, each has its own values, at the
boundary where the clauses meet. -/

/-- Every part of the machine at work, and the fetch stalled: WB writes `x[15]`, which RR reads; Mem2 loads cell 40; Mem1 stores to cell
50; BR sends `pc` to 4, where `ld r6 5 50` meets the slot with `dest` 5 that IA passes on; ID drops an illegal slot. -/
def busy : State :=
  { State.boot (writeCell (writeCell [] 1 0x05060532) 40 99) 2 false with
    latches :=
      { ifetch := slot 12 0 0 0, id := slot 13 0 0 0, ia := slot 0 5 9 0, rr := slot 1 3 15 0, add := .empty, mul := .empty,
        div := slot 4 3 7 2, br := slot 7 1 4 0, mem1 := slot 6 0 50 9, mem2 := slot 5 4 40 40, wb := slot 0 15 7 7 } }

/-- The same with another `dest` in IA: the fetch admits. -/
def busyAdmits : State := { busy with latches := { busy.latches with ia := slot 0 6 9 0 } }

theorem witness_EncodeInvertsDecode : Fields.Encodable ⟨255, 255, -128, 127⟩ := by decide

theorem witness_EveryInstructionRoundTrips :
    (Instr.bltz 255 (-128) 127).WellFormed ∧ decode 0x0BFF807F = .ok (.bltz 255 (-128) 127) := by decide

theorem witness_IllegalOpcodesAreRejectedByNumber :
    ((0x0CFFFFFF : Word).extractLsb' 24 8).toNat ≤ 12 ∧ 12 < ((0x0D000000 : Word).extractLsb' 24 8).toNat := by decide

theorem witness_CellWrittenReadsBackAlone :
    (65535 : Word).toNat ≤ 65535 ∧ State.reset.mem.wf = true ∧ 4 * (65535 : Word).toNat + 3 < 262144 ∧
      65534 ≠ (65535 : Word).toNat ∧ 65535 < (65536 : Word).toNat := by decide

theorem witness_CanonicalMemoriesAreEqualIfReadEqual :
    Memory.wf (writeByte (writeByte [] 5 1) 3 2) = true ∧ Memory.wf (writeByte (writeByte [] 3 2) 5 1) = true ∧
      ∀ a, readByte (writeByte (writeByte [] 5 1) 3 2) a = readByte (writeByte (writeByte [] 3 2) 5 1) a :=
  ⟨by decide, by decide, fun _ => rfl⟩

theorem witness_DivisionRoundsTowardZero :
    (0 : Word) = 0 ∧ ((1 : Word) ≠ 0 ∧ ¬((0x80000000 : Word).toInt = -2147483648 ∧ (1 : Word).toInt = -1)) ∧
      ((0x80000000 : Word).toInt = -2147483648 ∧ (0xFFFFFFFF : Word).toInt = -1) := by decide

theorem witness_SetInEveryStage :
    (atStage .ifetch).cursor = .ifetch ∧ (atStage .ia).cursor = .ia ∧
      ((atStage .wb).cursor = .wb ∧ (15 : Byte).toNat < 16 ∧ 16 ≤ (16 : Byte).toNat) ∧
      ((atStage .mem2).cursor.next? = some .wb ∧ (atStage .mem2).cursor ∉ [Stage.ifetch, .ia]) := by decide

/-- The clauses of IF, RR and WB are those of `Obligations.DivInEveryStage` too. -/
theorem witness_AddSubMulInEveryStage :
    (atStage .ifetch).cursor = .ifetch ∧
      ((atStage .rr).cursor = .rr ∧ (15 : Word).toNat < 16 ∧ ¬((0 ≤ (15 : Word).toInt ∧ (15 : Word).toInt ≤ 15) ∧
        (0 ≤ (16 : Word).toInt ∧ (16 : Word).toInt ≤ 15))) ∧
      ((atStage .add).cursor = .add ∧ Stage.add.next? = some .mul ∧ (atStage .mul).cursor = .mul ∧ Stage.mul.next? = some .div) ∧
      ((atStage .wb).cursor = .wb ∧ (15 : Byte).toNat < 16 ∧ 16 ≤ (16 : Byte).toNat) ∧
      ((atStage .id).cursor.next? = some .ia ∧ (atStage .id).cursor ∉ [Stage.ifetch, .rr, .add] ∧
        (atStage .id).cursor ∉ [Stage.ifetch, .rr, .mul]) := by decide

theorem witness_DivInEveryStage :
    (atStage .div).cursor = .div ∧ (1 : Word) ≠ 0 ∧ (0 : Word) = 0 ∧
      ((atStage .br).cursor.next? = some .mem1 ∧ (atStage .br).cursor ∉ [Stage.ifetch, .rr, .div]) := by decide

/-- The fetch clauses are those of `Obligations.StInEveryStage` too. -/
theorem witness_LdInEveryStage :
    ((holds .rr (slot 0 5 0 0)).cursor = .ifetch ∧ (holds .rr (slot 0 5 0 0)).latches.rr.valid = true ∧
        (5 : Word) = (holds .rr (slot 0 5 0 0)).latches.rr.dest.setWidth 32) ∧
      ((atStage .ifetch).cursor = .ifetch ∧ ¬((atStage .ifetch).latches.rr.valid = true ∧
        (0 : Word) = (atStage .ifetch).latches.rr.dest.setWidth 32)) ∧
      ((atStage .mem2).cursor = .mem2 ∧ (65535 : Word).toNat ≤ 65535 ∧ 65535 < (65536 : Word).toNat) ∧
      ((atStage .wb).cursor = .wb ∧ (15 : Byte).toNat < 16 ∧ 16 ≤ (16 : Byte).toNat) ∧
      ((atStage .mem1).cursor.next? = some .mem2 ∧ (atStage .mem1).cursor ∉ [Stage.ifetch, .mem2]) := by decide

theorem witness_StInEveryStage :
    ((atStage .mem1).cursor = .mem1 ∧ (65535 : Word).toNat ≤ 65535 ∧ 65535 < (65536 : Word).toNat) ∧
      ((atStage .mem2).cursor.next? = some .wb ∧ (atStage .mem2).cursor ∉ [Stage.ifetch, .mem1]) := by decide

theorem witness_BranchesInEveryStage :
    (atStage .ifetch).cursor = .ifetch ∧
      ((atStage .rr).cursor = .rr ∧ (15 : Byte).toNat < 16 ∧ 16 ≤ (16 : Byte).toNat) ∧
      ((atStage .br).cursor = .br ∧ (atStage .br).predUpdate = false ∧ { atStage .br with predUpdate := true }.predUpdate = true ∧
        0 ≤ (0 : Word).toInt ∧ ¬ 0 < (0 : Word).toInt ∧ ¬ (1 : Word).toInt = 0 ∧ ¬ (1 : Word).toInt ≤ 0 ∧
        ¬ 0 ≤ (0xFFFFFFFF : Word).toInt ∧ (0xFFFFFFFF : Word).toInt < 0 ∧ ¬ (0 : Word).toInt < 0) ∧
      (atStage .wb).cursor = .wb ∧
      ((atStage .add).cursor.next? = some .mul ∧ (atStage .add).cursor ∉ [Stage.ifetch, .rr, .br]) := by decide

theorem witness_RetInEveryStage :
    (atStage .ifetch).cursor = .ifetch ∧ (atStage .wb).cursor = .wb ∧
      ((atStage .mem2).cursor.next? = some .wb ∧ (atStage .mem2).cursor ∉ [Stage.ifetch]) := by decide

theorem witness_RegisterWritersFrame :
    (Instr.ld 15 5 5).opcode.toNat ≤ 5 ∧
      exec (.ld 15 5 5) (atStage .wb) = .next ((atStage .wb).setRegs ((atStage .wb).regs.set 15 5)).addCommit :=
  ⟨by decide, rfl⟩

theorem witness_StoreFrame :
    exec (.st 0 40 9) (holds .mem1 (slot 6 0 40 9) |>.setCursor .mem1) =
      .next (nextOr State.reset (exec (.st 0 40 9) (holds .mem1 (slot 6 0 40 9) |>.setCursor .mem1))) := rfl

theorem witness_BranchAndRetFrame :
    7 ≤ (Instr.bez 1 4 0).opcode.toNat ∧
      exec (.bez 1 4 0) { atStage .br with predUpdate := true } =
        .next (nextOr State.reset (exec (.bez 1 4 0) { atStage .br with predUpdate := true })) :=
  ⟨by decide, rfl⟩

/-- The first part; the second has the hypotheses of `witness_FetchedBranchFollowsThePrediction`. -/
theorem witness_PredictionFollowsTheCounter :
    1 < ((tables 2 0x28).ptAt (predIndex 0x48)).toNat ∧ ((tables 1 0x28).ptAt (predIndex 0x48)).toNat ≤ 1 := by decide

theorem witness_AliasedBranchesShareOneEntry :
    (0x48 : Word).toNat % 64 = (0x08 : Word).toNat % 64 ∧ (predict 0x48 (tables 2 0x28)).1 = true := by decide

theorem witness_SignalsAndWhenTheCoreSteps : { State.reset with progLen := 65536 }.progLen ≤ 65536 := by decide

theorem witness_StepRunsTheFetchedInstruction :
    busyAdmits.Running ∧ runStages backEndOrder busyAdmits = .next (nextOr State.reset (runStages backEndOrder busyAdmits)) ∧
      (nextOr State.reset (runStages backEndOrder busyAdmits)).halted = false ∧
      (advanceIF (nextOr State.reset (runStages backEndOrder busyAdmits))).fetchExhausted = false ∧
      decode (fetchWord (advanceIF (nextOr State.reset (runStages backEndOrder busyAdmits)))) = .ok (.ld 6 5 50) :=
  ⟨by decide, rfl, by decide, by decide, by decide⟩

theorem witness_DrainedStepRunsTheWordAtPc :
    (fetches 0x01030102).Running ∧ (fetches 0x01030102).latches = .empty ∧ (fetches 0x01030102).cursor = .ifetch ∧
      decode (fetchWord (fetches 0x01030102)) = .ok (.add 3 1 2) := by decide

theorem witness_StepIsElevenClockedRegisters : busy.Running ∧ faultOf busy = none := by decide

theorem witness_OldestFaultIsRecordedAlone : twoFaults.Running ∧ faultOf twoFaults = some ⟨some .regIndex, .wb, 4⟩ := by decide

theorem witness_FaultEntryKeepsAllOtherState :
    twoFaults.halted = false ∧ step twoFaults = .next (after twoFaults) ∧ (after twoFaults).halted = true :=
  ⟨by decide, rfl, by decide⟩

theorem witness_HaltedCoreTakesNoStep :
    (after twoFaults).progLen ≤ 65536 ∧ (after twoFaults).fault.cause = some .regIndex := by decide

theorem witness_DoneCoreHoldsAllState :
    State.reset.progLen ≤ 65536 ∧ State.reset.halted = false ∧ State.reset.done = true := by decide

theorem witness_StepIsNeverStuck :
    (({ busy with progLen := 65536 }).progLen ≤ 65536 ∧ ({ busy with progLen := 65536 }).halted = false) ∧
      65536 < ({ busy with progLen := 65537 }).progLen := by decide

theorem witness_CountersOfAStep :
    (busy.Running ∧ step busy = .next (after busy) ∧ (after busy).halted = false) ∧
      (twoFaults.Running ∧ step twoFaults = .next (after twoFaults) ∧ (after twoFaults).halted = true) :=
  ⟨⟨by decide, rfl, by decide⟩, by decide, rfl, by decide⟩

/-- For the statements about one completed step without further premises: `OnlyWritebackChangesRegisters`, `UpdateSaturatesOneEntry`,
`FetchHandsItsSlotToIdUnchanged`, `CountersAndAnomalyRecordAreReadByNothing`, `NoInstructionIsLostOrDoubled`. -/
theorem witness_completed_step : Completes busy (after busy) ∧ Completes busyAdmits (after busyAdmits) :=
  ⟨⟨by decide, rfl, by decide⟩, by decide, rfl, by decide⟩

theorem witness_OnlyStoreInMem1ChangesMemory :
    busy.mem.wf = true ∧ busy.latches.mem1.valid = true ∧ busy.latches.mem1.opcode = 6 := by decide

theorem witness_NoStepWritesWhatTheHostSupplied : step busy = .next (after busy) := rfl

/-- The arithmetic clause; with `witness_completed_step`. -/
theorem witness_RegisterReadSeesThisCyclesWriteback :
    busy.latches.rr.valid = true ∧ 1 ≤ busy.latches.rr.opcode.toNat ∧ busy.latches.rr.opcode.toNat ≤ 4 := by decide

/-- The branch clause. -/
theorem witness_RegisterReadSeesThisCyclesWriteback_branch :
    Completes (holds .rr (slot 11 15 4 0)) (after (holds .rr (slot 11 15 4 0))) ∧ (holds .rr (slot 11 15 4 0)).latches.rr.valid = true ∧
      7 ≤ (holds .rr (slot 11 15 4 0)).latches.rr.opcode.toNat ∧ (holds .rr (slot 11 15 4 0)).latches.rr.opcode.toNat ≤ 11 :=
  ⟨⟨by decide, rfl, by decide⟩, by decide⟩

theorem witness_LoadThenStoreThenFetchInOneCycle :
    busyAdmits.latches.mem2.valid = true ∧ busyAdmits.latches.mem2.opcode = 5 ∧ busyAdmits.latches.mem1.valid = true ∧
      busyAdmits.latches.mem1.opcode = 6 ∧ (after busyAdmits).latches.ifetch.valid = true := by decide

theorem witness_ExhaustedFetchAdmitsNothing :
    Completes (holds .wb (slot 12 0 0 0)) (after (holds .wb (slot 12 0 0 0))) ∧
      4 * (holds .wb (slot 12 0 0 0)).progLen ≤ (pcAtFetch (holds .wb (slot 12 0 0 0))).toNat :=
  ⟨⟨by decide, rfl, by decide⟩, by decide⟩

/-- The clause of a stall on `busy`, that of no stall on `busyAdmits`; with `witness_completed_step`. -/
theorem witness_OnlyTheLoadStoreHazardStalls :
    (pcAtFetch busy).toNat < 4 * busy.progLen ∧ (pcAtFetch busyAdmits).toNat < 4 * busyAdmits.progLen ∧
      (decodeFields (readCell (after busy).mem ((pcAtFetch busy).toNat / 4))).opcode = 5 ∧
      (decodeFields (readCell (after busy).mem ((pcAtFetch busy).toNat / 4))).left = busy.latches.ia.dest.setWidth 32 ∧
      (decodeFields (readCell (after busy).mem ((pcAtFetch busy).toNat / 4))).left ≠ busyAdmits.latches.ia.dest.setWidth 32 := by decide

theorem witness_AdmissionAdvancesPcByFour :
    Completes (fetches 0x06002863) (after (fetches 0x06002863)) ∧
      (pcAtFetch (fetches 0x06002863)).toNat < 4 * (fetches 0x06002863).progLen ∧
      (decodeFields (readCell (after (fetches 0x06002863)).mem 0)).opcode = 6 ∧ (fetches 0x06002863).latches.ia.valid = false :=
  ⟨⟨by decide, rfl, by decide⟩, by decide⟩

theorem witness_FetchedBranchFollowsThePrediction :
    Completes (fetches 0x07014400) (after (fetches 0x07014400)) ∧
      (pcAtFetch (fetches 0x07014400)).toNat < 4 * (fetches 0x07014400).progLen ∧
      (decodeFields (readCell (after (fetches 0x07014400)).mem 0)).opcode = 7 :=
  ⟨⟨by decide, rfl, by decide⟩, by decide⟩

theorem witness_IdDropsAndReportsIllegalOpcodes :
    (Completes (holds .id (slot 13 0 0 0)) (after (holds .id (slot 13 0 0 0))) ∧ (holds .id (slot 13 0 0 0)).latches.id.valid = true ∧
        12 < (holds .id (slot 13 0 0 0)).latches.id.opcode.toNat) ∧
      (Completes (holds .id (slot 12 0 0 0)) (after (holds .id (slot 12 0 0 0))) ∧
        (holds .id (slot 12 0 0 0)).latches.id.opcode.toNat ≤ 12) :=
  ⟨⟨⟨by decide, rfl, by decide⟩, by decide⟩, ⟨by decide, rfl, by decide⟩, by decide⟩

/-- A BEZ that is taken, and the same with the value 1. -/
theorem witness_BranchOutcomeSquashesNothing :
    holds .br (slot 7 1 4 1) = { holds .br (slot 7 1 4 0) with
        latches := { (holds .br (slot 7 1 4 0)).latches with br := { (holds .br (slot 7 1 4 0)).latches.br with right := 1 } } } ∧
      Completes (holds .br (slot 7 1 4 0)) (after (holds .br (slot 7 1 4 0))) ∧
      Completes (holds .br (slot 7 1 4 1)) (after (holds .br (slot 7 1 4 1))) :=
  ⟨rfl, ⟨by decide, rfl, by decide⟩, by decide, rfl, by decide⟩

theorem witness_InvariantAtReset : Memory.wf (writeCell [] 65535 0x0C000000) = true ∧ 65536 ≤ 65536 := by decide

theorem witness_StepKeepsTheInvariant : Inv busy ∧ step busy = .next (after busy) :=
  ⟨⟨by decide, by decide, rfl, by decide, by decide, rfl, by decide, rfl⟩, rfl⟩

/-- The account with equality on both sides of the step. -/
theorem witness_StepKeepsAdmissionsAccounted :
    AdmissionsAccounted (fetches 0x0C000000) ∧ step (fetches 0x0C000000) = .next (after (fetches 0x0C000000)) :=
  ⟨by decide, rfl⟩

theorem witness_StoresReachOnlyTheFirst128Cells :
    LiteralStores (holds .mem1 (slot 6 0 127 1)) ∧
      step (holds .mem1 (slot 6 0 127 1)) = .next (after (holds .mem1 (slot 6 0 127 1))) :=
  ⟨by decide, rfl⟩

theorem witness_AdmittedInstructionAdvancesOneStageACycle :
    10 < Stage.all.length ∧ ((holds .ifetch (slot 12 3 1 2)).slotAt .ifetch).valid = true ∧
      ((holds .ifetch (slot 12 3 1 2)).slotAt .ifetch).opcode.toNat ≤ 12 ∧
      RunsTo 10 (holds .ifetch (slot 12 3 1 2)) (nextOr State.reset (runSteps 10 (holds .ifetch (slot 12 3 1 2)))) :=
  ⟨by decide, by decide, by decide, rfl, by decide⟩

theorem witness_ExhaustedPipelineDrainsInElevenCycles :
    (holds .ifetch (slot 6 0 40 9)).fetchExhausted = true ∧
      (∀ st ∈ Stage.all, ((holds .ifetch (slot 6 0 40 9)).slotAt st).valid = true →
        ¬(7 ≤ ((holds .ifetch (slot 6 0 40 9)).slotAt st).opcode.toNat ∧
          ((holds .ifetch (slot 6 0 40 9)).slotAt st).opcode.toNat ≤ 11)) ∧
      RunsTo 11 (holds .ifetch (slot 6 0 40 9)) (nextOr State.reset (runSteps 11 (holds .ifetch (slot 6 0 40 9)))) :=
  ⟨by decide, by decide, rfl, by decide⟩

/-- A register file with `x[2] = 3`, for a DIV that does not fault. -/
def divisorThree : State := { fetches 0x04030102 with regs := (Vector.replicate 16 0).set 2 3 }

theorem witness_SetAndArithmeticRunAlone :
    Lone (.set 15 127 0) (fetches 0x000F7F00) ∧ Lone (.add 3 1 2) (fetches 0x01030102) ∧ Lone (.sub 1 1 2) (fetches 0x02010102) ∧
      Lone (.mul 3 1 2) (fetches 0x03030102) ∧ (Lone (.div 3 1 2) divisorThree ∧ divisorThree.regs[2] ≠ 0) ∧
      (1 : Word).toNat < 16 ∧ (2 : Word).toNat < 16 ∧ (15 : Byte).toNat < 16 := by decide

theorem witness_LoadStoreAndRetRunAlone :
    (Lone (.ld 4 40 40) (fetches 0x05042828) ∧ (40 : Word).toNat ≤ 65535) ∧
      (Lone (.st 0 127 1) (fetches 0x06007F01) ∧ (127 : Word).toNat ≤ 65535) ∧ Lone (.ret 0 0 0) (fetches 0x0C000000) := by decide

theorem witness_BranchesRunAlone :
    Lone (.bez 1 4 0) (fetches 0x07010400) ∧ Lone (.bgez 2 4 0) (fetches 0x08020400) ∧ Lone (.blez 2 4 0) (fetches 0x09020400) ∧
      Lone (.bgtz 1 4 0) (fetches 0x0A010400) ∧ Lone (.bltz 3 4 0) (fetches 0x0B030400) ∧
      4 * (fetches 0x07010400).progLen ≤ (predict (fetches 0x07010400).pc (fetches 0x07010400)).2.toNat ∧
      4 * (fetches 0x07010400).progLen ≤ (4 : Word).toNat ∧ (3 : Byte).toNat < 16 := by decide

theorem witness_DivisionByZeroHaltsInTheEighthCycle :
    Lone (.div 3 1 2) (fetches 0x04030102) ∧ (fetches 0x04030102).regs[2] = 0 ∧ (1 : Word).toNat < 16 ∧ (2 : Word).toNat < 16 := by
  decide

theorem witness_IllegalWordRunAloneIsDropped :
    (fetches 0x0D000000).progLen ≤ 65536 ∧ (fetches 0x0D000000).fault = .clear ∧ (fetches 0x0D000000).latches = .empty ∧
      (fetches 0x0D000000).cursor = .ifetch ∧ (fetches 0x0D000000).pc.toNat < 4 * (fetches 0x0D000000).progLen ∧
      4 * (fetches 0x0D000000).progLen ≤ (fetches 0x0D000000).pc.toNat + 4 ∧
      12 < (decodeFields (fetchWord (fetches 0x0D000000))).opcode.toNat := by decide

end Sys2Proof.Tests
end

/-! The signals of 10_state.md R35, and that a core which is neither DONE nor HALTED completes a cycle or enters a fault. The second
turns on one fact about the traversal: every stage action answers a next state and none of them counts a cycle. -/

namespace Sys2Proof.Machine

/-! ### The signals -/

theorem Stage.mem_all (st : Stage) : st ∈ Stage.all := by cases st <;> decide

theorem pipelineEmpty_iff (s : State) : s.pipelineEmpty = true ↔ ∀ st : Stage, (s.slotAt st).valid = false := by
  simp [State.pipelineEmpty, Stage.mem_all]

theorem fetchExhausted_iff (s : State) : s.fetchExhausted = true ↔ 4 * s.progLen ≤ s.pc.toNat := decide_eq_true_iff

theorem done_iff (s : State) : s.done = true ↔ s.fetchExhausted = true ∧ s.pipelineEmpty = true := Bool.and_eq_true_iff

theorem FaultRecord.code_ne_zero_iff (f : FaultRecord) : f.code ≠ 0 ↔ f.cause.isSome = true := by
  unfold FaultRecord.code
  split <;> simp [*]

theorem halted_iff_code (s : State) : s.halted = true ↔ s.fault.code ≠ 0 := s.fault.code_ne_zero_iff.symm

theorem halted_eq_false_iff (s : State) : s.halted = false ↔ s.fault.cause = none := by simp [State.halted]

/-! ### What no stage action writes -/

/-- The pieces of state that no action of a stage and no transfer writes: CYCLES, which line 12 of 40_pipeline_cycle.md R91 counts,
and the two that are fixed for a run, PROG_LEN and PRED_UPDATE. -/
def StageFrame (s t : State) : Prop := t.cycles = s.cycles ∧ t.progLen = s.progLen ∧ t.predUpdate = s.predUpdate

/-- An outcome that is a next state within the frame of a stage action. -/
def StageOutcome (s : State) (o : Host.Outcome State Fault Refusal) : Prop := ∃ t, o = .next t ∧ StageFrame s t

@[simp] theorem StageFrame.refl (s : State) : StageFrame s s := ⟨rfl, rfl, rfl⟩

theorem StageFrame.trans {s t u : State} (hst : StageFrame s t) (htu : StageFrame t u) : StageFrame s u := by
  obtain ⟨hc, hp, hu⟩ := hst
  obtain ⟨hc', hp', hu'⟩ := htu
  exact ⟨hc'.trans hc, hp'.trans hp, hu'.trans hu⟩

@[simp] theorem stageOutcome_next {s t : State} : StageOutcome s (.next t) ↔ StageFrame s t := by simp [StageOutcome]

theorem StageOutcome.of_frame {s t : State} {o : Host.Outcome State Fault Refusal} (hst : StageFrame s t) (ho : StageOutcome t o) :
    StageOutcome s o := by
  obtain ⟨u, rfl, htu⟩ := ho
  exact ⟨u, rfl, hst.trans htu⟩

section shared
variable {s t : State}

@[simp] theorem stageFrame_setCursor (st : Stage) : StageFrame s (t.setCursor st) ↔ StageFrame s t := Iff.rfl
@[simp] theorem stageFrame_setLatch (st : Stage) (sl : Slot) : StageFrame s (t.setLatch st sl) ↔ StageFrame s t := Iff.rfl
@[simp] theorem stageFrame_setPc (a : Word) : StageFrame s (t.setPc a) ↔ StageFrame s t := Iff.rfl
@[simp] theorem stageFrame_setMem (m : Memory) : StageFrame s (t.setMem m) ↔ StageFrame s t := Iff.rfl
@[simp] theorem stageFrame_setRegs (x : Vector Word 16) : StageFrame s (t.setRegs x) ↔ StageFrame s t := Iff.rfl
@[simp] theorem stageFrame_addStall : StageFrame s t.addStall ↔ StageFrame s t := Iff.rfl
@[simp] theorem stageFrame_addCommit : StageFrame s t.addCommit ↔ StageFrame s t := Iff.rfl
@[simp] theorem stageFrame_reportIllegal : StageFrame s t.reportIllegal ↔ StageFrame s t := Iff.rfl
@[simp] theorem stageFrame_raiseFault (c : FaultCause) : StageFrame s (raiseFault c t) ↔ StageFrame s t := Iff.rfl

@[simp] theorem stageFrame_deliver (sl : Slot) : StageFrame s (deliver sl t) ↔ StageFrame s t := by
  unfold deliver
  split <;> rfl

@[simp] theorem stageFrame_passFields (f : Fields) : StageFrame s (passFields f t) ↔ StageFrame s t := stageFrame_deliver _
@[simp] theorem stageFrame_passOn (i : Instr) : StageFrame s (passOn i t) ↔ StageFrame s t := stageFrame_passFields _
@[simp] theorem stageFrame_admitFields (f : Fields) : StageFrame s (admitFields f t) ↔ StageFrame s t := Iff.rfl
@[simp] theorem stageFrame_admitInstr (i : Instr) : StageFrame s (admitInstr i t) ↔ StageFrame s t := Iff.rfl
@[simp] theorem stageFrame_admitBranch (i : Instr) : StageFrame s (admitBranch i t) ↔ StageFrame s t := Iff.rfl

@[simp] theorem stageFrame_admitMemory (i : Instr) : StageFrame s (admitMemory i t) ↔ StageFrame s t := by
  unfold admitMemory
  split <;> rfl

@[simp] theorem stageFrame_resolve (c : Bool) (a : Word) : StageFrame s (resolve c a t) ↔ StageFrame s t := by
  obtain ⟨q, p, b, h⟩ := resolve_frame c a t
  rw [h]
  rfl

/-- An operation that may raise stays in the frame when going on with each value it can give does. -/
theorem stageFrame_orFault {α : Type} {r : Except FaultCause α} {go : α → State} (h : ∀ v, r = .ok v → StageFrame s (go v)) :
    StageFrame s (orFault r s go) := by
  obtain ⟨v, hv, hgo⟩ | ⟨c, -, hraise⟩ := orFault_cases r s go
  · exact hgo ▸ h v hv
  · simp [hraise]

theorem stageFrame_of_writeReg {i v : Word} (h : writeReg i v s = .ok t) : StageFrame s t := by
  unfold writeReg at h
  split at h
  · cases h; simp
  · cases h

theorem stageFrame_of_memWrite {a v : Word} (h : memWrite a v s = .ok t) : StageFrame s t := by
  unfold memWrite at h
  split at h
  · cases h; simp
  · cases h

@[simp] theorem stageFrame_commitResult (d : Byte) (v : Word) : StageFrame s (commitResult d v s) :=
  stageFrame_orFault fun _ h => stageFrame_addCommit.mpr (stageFrame_of_writeReg h)

@[simp] theorem stageFrame_illegalStage (f : Fields) : StageFrame s (illegalStage f s) := by
  unfold illegalStage
  split <;> simp

end shared

/-! ### The traversal -/

/-- Every stage's action on every instruction answers a next state within the frame. -/
theorem exec_stageOutcome (i : Instr) (s : State) : StageOutcome s (exec i s) := by
  cases i with
  | st d l r =>
    simp only [exec, execSt]
    split
    case h_2 => exact stageOutcome_next.mpr (stageFrame_orFault fun t ht => by simpa using stageFrame_of_memWrite ht)
    all_goals simp
  | _ =>
    simp only [exec, execSet, execAdd, execSub, execMul, execDiv, execLd, execBez, execBgez, execBlez, execBgtz, execBltz, execRet]
    split <;> simp [stageFrame_orFault]

theorem runStage_stageOutcome (st : Stage) (s : State) : StageOutcome s (runStage st s) := by
  cases hv : (s.slotAt st).valid with
  | false => simp [runStage_bubble hv]
  | true =>
    have hframe : StageFrame s (s.setCursor st) := by simp
    cases hi : (s.slotAt st).fields.instr? with
    | some i => exact runStage_valid hv hi ▸ (exec_stageOutcome i _).of_frame hframe
    | none => exact runStage_illegal hv hi ▸ stageOutcome_next.mpr (hframe.trans (stageFrame_illegalStage _))

/-- Going on after a stage keeps the frame, whether a fault ended the traversal there or not. -/
theorem thenUnlessHalted_stageOutcome {s : State} {o : Host.Outcome State Fault Refusal}
    {go : State → Host.Outcome State Fault Refusal} (ho : StageOutcome s o) (hgo : ∀ t, StageOutcome t (go t)) :
    StageOutcome s (thenUnlessHalted o go) := by
  obtain ⟨t, rfl, hst⟩ := ho
  cases hh : t.halted with
  | true =>
    rw [thenUnlessHalted_halted go hh]
    exact stageOutcome_next.mpr hst
  | false =>
    rw [thenUnlessHalted_next go hh]
    exact (hgo t).of_frame hst

theorem runStages_stageOutcome (order : List Stage) (s : State) : StageOutcome s (runStages order s) := by
  induction order generalizing s with
  | nil => simp [runStages]
  | cons st rest ih => exact thenUnlessHalted_stageOutcome (runStage_stageOutcome st s) ih

theorem fetchStage_stageOutcome (s : State) : StageOutcome s (fetchStage s) := by
  unfold fetchStage
  split
  · simp
  split
  · simp
  split
  · exact exec_stageOutcome _ s
  · simp

theorem traversal_stageOutcome (s : State) : StageOutcome s (traversal s) :=
  thenUnlessHalted_stageOutcome (runStages_stageOutcome _ s) fun t =>
    (fetchStage_stageOutcome _).of_frame (show StageFrame t (advanceIF t) by simp [advanceIF])

/-! ### The step -/

/-- The end of a step either counts the cycle or leaves the core HALTED. -/
theorem endCycle_counts_or_halts {s u : State} (h : StageFrame s u) :
    (endCycle s u).cycles = s.cycles + 1 ∨ (endCycle s u).halted = true := by
  obtain ⟨hcycles, -, -⟩ := h
  cases hu : u.halted with
  | true => exact .inr (by rw [endCycle, if_pos hu]; exact hu)
  | false => exact .inl (by simp [endCycle, hu, hcycles])

/-- A running core takes a step: it answers the end of a traversal. -/
theorem step_of_running {s : State} (h : s.Running) :
    ∃ u, step s = .next (endCycle s u) ∧ traversal s = .next u ∧ StageFrame s u := by
  obtain ⟨hlen, hhalted, hdone⟩ := h
  have hcause := (halted_eq_false_iff s).mp hhalted
  obtain ⟨u, hu, hframe⟩ := traversal_stageOutcome s
  exact ⟨u, by simp [step, cycle, Nat.not_lt.mpr hlen, hcause, hdone, hu], hu, hframe⟩

/-- A step that counts a cycle or records a fault was taken by a core neither DONE nor HALTED: a DONE core answers itself. -/
theorem running_of_step {s t : State} (h : step s = .next t) (ht : t.cycles = s.cycles + 1 ∨ t.halted = true) :
    s.done = false ∧ s.halted = false := by
  obtain ⟨-, hcause, ⟨-, rfl⟩ | ⟨hdone, -⟩⟩ := step_cases h
  · have hhalted := (halted_eq_false_iff t).mpr hcause
    simp [hhalted] at ht
  · exact ⟨hdone, (halted_eq_false_iff s).mpr hcause⟩

/-- Settles O24, from the definitions of the signals and the two directions of when the core steps. -/
theorem signalsAndWhenTheCoreSteps : Obligations.SignalsAndWhenTheCoreSteps := by
  intro s
  refine ⟨pipelineEmpty_iff s, fetchExhausted_iff s, done_iff s, halted_iff_code s, fun hlen => ⟨?_, ?_⟩⟩
  · rintro ⟨t, hstep, ht⟩
    exact running_of_step hstep ht
  · rintro ⟨hdone, hhalted⟩
    obtain ⟨u, hstep, -, hframe⟩ := step_of_running ⟨hlen, hhalted, hdone⟩
    exact ⟨_, hstep, endCycle_counts_or_halts hframe⟩

end Sys2Proof.Machine

/-! The order of the memory accesses inside one cycle (20_memory.md R57). Every stage action writes one latch, and only Mem1 writes the
memory; so the slot that a stage of the traversal acts on is the one of the start of the cycle, the latch it fills is the one of the end,
and which accesses come before the ST of Mem1 is read off the order of the stages. -/

namespace Sys2Proof.Machine

/-! ### What an action writes -/

/-- The data path of a stage action: it fills its own latch (`filledLatch`) and no other, only Mem1 writes the memory, and the traversal
is still at the same stage. -/
def ActionFrame (s t : State) : Prop :=
  t.cursor = s.cursor ∧ (s.cursor ≠ .mem1 → t.mem = s.mem) ∧ LatchesKeptBut (filledLatch s) s t

theorem filledLatch_ifetch {s : State} (hc : s.cursor = .ifetch) : filledLatch s = some .ifetch := if_pos hc

theorem filledLatch_backEnd {s : State} (hc : s.cursor ≠ .ifetch) : filledLatch s = s.cursor.next? := if_neg hc

@[simp] theorem ActionFrame.refl (s : State) : ActionFrame s s := ⟨rfl, fun _ => rfl, fun _ _ => rfl⟩

section actions
variable {s t : State}

@[simp] theorem actionFrame_setPc (a : Word) : ActionFrame s (t.setPc a) ↔ ActionFrame s t := Iff.rfl
@[simp] theorem actionFrame_setRegs (x : Vector Word 16) : ActionFrame s (t.setRegs x) ↔ ActionFrame s t := Iff.rfl
@[simp] theorem actionFrame_addStall : ActionFrame s t.addStall ↔ ActionFrame s t := Iff.rfl
@[simp] theorem actionFrame_addCommit : ActionFrame s t.addCommit ↔ ActionFrame s t := Iff.rfl
@[simp] theorem actionFrame_reportIllegal : ActionFrame s t.reportIllegal ↔ ActionFrame s t := Iff.rfl
@[simp] theorem actionFrame_raiseFault (c : FaultCause) : ActionFrame s (raiseFault c t) ↔ ActionFrame s t := Iff.rfl

@[simp] theorem actionFrame_resolve (c : Bool) (a : Word) : ActionFrame s (resolve c a t) ↔ ActionFrame s t := by
  obtain ⟨q, p, b, h⟩ := resolve_frame c a t
  rw [h]
  rfl

theorem actionFrame_setMem (m : Memory) (hc : s.cursor = .mem1) : ActionFrame s (s.setMem m) :=
  ⟨rfl, fun hne => absurd hc hne, fun _ _ => rfl⟩

/-- The latch an action fills may be overwritten. -/
theorem actionFrame_setLatch {n : Stage} (sl : Slot) (hn : filledLatch s = some n) (h : ActionFrame s t) :
    ActionFrame s (t.setLatch n sl) := by
  obtain ⟨hcursor, hmem, hslots⟩ := h
  refine ⟨hcursor, hmem, fun st hst => ?_⟩
  have hne : st ≠ n := fun e => hst (by rw [hn, e])
  rw [State.slotAt_setLatch_other _ _ hne]
  exact hslots st hst

@[simp] theorem actionFrame_deliver (sl : Slot) (hc : s.cursor ≠ .ifetch) (h : ActionFrame s t) : ActionFrame s (deliver sl t) := by
  unfold deliver
  split
  case h_1 n hn => exact actionFrame_setLatch sl (by rwa [filledLatch_backEnd hc, ← h.1]) h
  case h_2 => exact h

@[simp] theorem actionFrame_passFields (f : Fields) (hc : s.cursor ≠ .ifetch) (h : ActionFrame s t) :
    ActionFrame s (passFields f t) := actionFrame_deliver _ hc h

@[simp] theorem actionFrame_passOn (i : Instr) (hc : s.cursor ≠ .ifetch) (h : ActionFrame s t) : ActionFrame s (passOn i t) :=
  actionFrame_passFields _ hc h

/-- An operation that may raise stays in the frame when going on with each value it can give does. -/
theorem actionFrame_orFault {α : Type} {r : Except FaultCause α} {go : α → State} (h : ∀ v, r = .ok v → ActionFrame s (go v)) :
    ActionFrame s (orFault r s go) := by
  obtain ⟨v, hv, hgo⟩ | ⟨c, -, hraise⟩ := orFault_cases r s go
  · exact hgo ▸ h v hv
  · simp [hraise]

@[simp] theorem actionFrame_commitResult (d : Byte) (v : Word) : ActionFrame s (commitResult d v s) := by
  obtain hd | hd := Nat.lt_or_ge d.toNat 16
  · simp [commitResult_of_lt v s hd]
  · simp [commitResult_of_ge v s hd]

theorem actionFrame_of_memWrite {a v : Word} (hc : s.cursor = .mem1) (h : memWrite a v s = .ok t) : ActionFrame s t := by
  unfold memWrite at h
  split at h
  · cases h; exact actionFrame_setMem _ hc
  · cases h

/-! ### What a fetched instruction does -/

theorem admitMemory_cases (i : Instr) (s : State) :
    admitMemory i s = s.addStall ∨ admitMemory i s = (enterIF i.fields s).setPc (s.pc + 4) := by
  cases h : hazard i.left s with
  | true => exact .inl (admitMemory_of_hazard h)
  | false => exact .inr (admitMemory_of_no_hazard h)

/-- An instruction just fetched stalls, or enters `L.IF` with a new `pc` (41_fetch_hazard.md R116 to R119). -/
theorem exec_ifetch_cases (i : Instr) (hc : s.cursor = .ifetch) :
    exec i s = .next s.addStall ∨ ∃ q, exec i s = .next ((enterIF i.fields s).setPc q) := by
  cases i with
  | ld d l r | st d l r =>
    simp only [exec, execLd, execSt, hc, Host.Outcome.next.injEq]
    exact (admitMemory_cases _ s).imp_right fun h => ⟨_, h⟩
  | _ =>
    simp only [exec, execSet, execAdd, execSub, execMul, execDiv, execBez, execBgez, execBlez, execBgtz, execBltz, execRet, hc]
    exact .inr ⟨_, rfl⟩

theorem actionFrame_enterIF (f : Fields) (hc : s.cursor = .ifetch) : ActionFrame s (enterIF f s) :=
  actionFrame_setLatch _ (filledLatch_ifetch hc) (.refl s)

/-! ### Every stage action -/

/-- The instructions' actions stay in the frame, in every stage. -/
theorem exec_actionFrame {i : Instr} (h : exec i s = .next t) : ActionFrame s t := by
  by_cases hc : s.cursor = .ifetch
  · obtain hstall | ⟨q, hadmit⟩ := exec_ifetch_cases i hc
    · cases hstall.symm.trans h; simp
    · cases hadmit.symm.trans h; simpa using actionFrame_enterIF _ hc
  cases i with
  | st d l r =>
    simp only [exec, execSt] at h
    split at h <;> cases h
    case h_1 hif => exact absurd hif hc
    case h_2 hmem1 => exact actionFrame_orFault fun v hv => actionFrame_passOn _ hc (actionFrame_of_memWrite hmem1 hv)
    all_goals simp [hc]
  | _ =>
    simp only [exec, execSet, execAdd, execSub, execMul, execDiv, execLd, execBez, execBgez, execBlez, execBgtz, execBltz,
      execRet] at h
    split at h <;> cases h <;> simp_all [actionFrame_orFault]

theorem illegalStage_actionFrame (f : Fields) (s : State) : ActionFrame s (illegalStage f s) := by
  unfold illegalStage
  split
  case h_1 hc => exact actionFrame_enterIF f hc
  all_goals simp [*]

/-- A stage of the back end, bubbles and illegal slots included. -/
theorem runStage_actionFrame {st : Stage} (hst : st ≠ .ifetch) (h : runStage st s = .next t) : ActionFrame (s.setCursor st) t := by
  cases hv : (s.slotAt st).valid with
  | false =>
    cases (runStage_bubble hv).symm.trans h
    exact actionFrame_deliver _ hst (.refl _)
  | true =>
    cases hi : (s.slotAt st).fields.instr? with
    | some i => exact exec_actionFrame ((runStage_valid hv hi).symm.trans h)
    | none =>
      cases (runStage_illegal hv hi).symm.trans h
      exact illegalStage_actionFrame _ _

theorem runStage_mem {st : Stage} (hst : st ≠ .ifetch) (hne : st ≠ .mem1) (h : runStage st s = .next t) : t.mem = s.mem := by
  obtain ⟨-, hmem, -⟩ := runStage_actionFrame hst h
  exact hmem hne

theorem runStage_slotAt {st n : Stage} (hst : st ≠ .ifetch) (hn : st.next? ≠ some n) (h : runStage st s = .next t) :
    t.slotAt n = s.slotAt n := by
  obtain ⟨-, -, hslots⟩ := runStage_actionFrame hst h
  exact hslots n (by rwa [filledLatch_backEnd hst])

end actions

/-! ### The traversal -/

section traversal
variable {s u : State}

/-- A part of the step that ends without a fault went through its first half without one. -/
theorem thenUnlessHalted_completes {o : Host.Outcome State Fault Refusal} {go : State → Host.Outcome State Fault Refusal}
    (h : thenUnlessHalted o go = .next u) (hu : u.halted = false) : ∃ t, o = .next t ∧ t.halted = false ∧ go t = .next u := by
  cases o with
  | next t =>
    cases ht : t.halted with
    | true =>
      cases (thenUnlessHalted_halted go ht).symm.trans h
      simp [ht] at hu
    | false => exact ⟨t, rfl, ht, (thenUnlessHalted_next go ht).symm.trans h⟩
  | fault | refused => cases h

/-- The states just before and just after one stage of a sequence that ends without a fault. -/
theorem runStages_around {before after : List Stage} {st : Stage} (h : runStages (before ++ st :: after) s = .next u)
    (hu : u.halted = false) :
    ∃ v w, runStages before s = .next v ∧ runStage st v = .next w ∧ w.halted = false ∧ runStages after w = .next u := by
  induction before generalizing s with
  | nil =>
    obtain ⟨w, hw, hw', hafter⟩ := thenUnlessHalted_completes h hu
    exact ⟨s, w, rfl, hw, hw', hafter⟩
  | cons first rest ih =>
    obtain ⟨t, ht, ht', hrest⟩ := thenUnlessHalted_completes h hu
    obtain ⟨v, w, hv, hw⟩ := ih hrest
    exact ⟨v, w, by rw [runStages, ht, thenUnlessHalted_next _ ht', hv], hw⟩

/-- What each stage of a sequence keeps, the sequence keeps, even if a fault ends it early. -/
theorem runStages_keeps {α : Type} (get : State → α) {order : List Stage}
    (hkeep : ∀ st ∈ order, ∀ s t, runStage st s = .next t → get t = get s) (h : runStages order s = .next u) : get u = get s := by
  induction order generalizing s with
  | nil => cases h; rfl
  | cons st rest ih =>
    obtain ⟨hfirst, hrest⟩ := List.forall_mem_cons.mp hkeep
    obtain ⟨t, ht, -⟩ := runStage_stageOutcome st s
    rw [runStages, ht] at h
    cases hh : t.halted with
    | true =>
      cases (thenUnlessHalted_halted _ hh).symm.trans h
      exact hfirst s _ ht
    | false => exact (ih hrest ((thenUnlessHalted_next _ hh).symm.trans h)).trans (hfirst s t ht)

theorem runStages_mem {order : List Stage} (hif : .ifetch ∉ order) (hmem1 : .mem1 ∉ order) (h : runStages order s = .next u) :
    u.mem = s.mem :=
  runStages_keeps State.mem
    (fun _ hst _ _ => runStage_mem (ne_of_mem_of_not_mem hst hif) (ne_of_mem_of_not_mem hst hmem1)) h

theorem runStages_slotAt {order : List Stage} {n : Stage} (hif : .ifetch ∉ order) (hn : ∀ st ∈ order, st.next? ≠ some n)
    (h : runStages order s = .next u) : u.slotAt n = s.slotAt n :=
  runStages_keeps (·.slotAt n) (fun st hst _ _ => runStage_slotAt (ne_of_mem_of_not_mem hst hif) (hn st hst)) h

/-! ### The fetch -/

/-- The opcode map read back: an instruction has the record that named it (30_encoding.md R74). -/
theorem fields_of_instr {f : Fields} {i : Instr} (h : f.instr? = some i) : i.fields = f := by
  unfold Fields.instr? at h
  split at h <;> cases h
  all_goals next hop => exact congrArg (Fields.mk · f.dest f.left f.right) (BitVec.eq_of_toNat_eq hop.symm)

theorem fields_of_decode {w : Word} {i : Instr} (h : decode w = .ok i) : i.fields = decodeFields w := by
  unfold decode at h
  split at h
  case h_1 j hj =>
    cases h
    exact fields_of_instr hj
  case h_2 => cases h

/-- All that a fetch can do: nothing, a stall, or the word at `pc` into `L.IF` and a new `pc` (41_fetch_hazard.md R110). -/
theorem fetchStage_cases (hc : s.cursor = .ifetch) (h : fetchStage s = .next u) :
    u = s ∨ u = s.addStall ∨ ∃ q, u = (enterIF (decodeFields (fetchWord s)) s).setPc q := by
  unfold fetchStage at h
  split at h
  · cases h; exact .inr (.inl rfl)
  split at h
  · cases h; exact .inl rfl
  split at h
  case h_1 i hi =>
    rw [← fields_of_decode hi]
    obtain hstall | ⟨q, hadmit⟩ := exec_ifetch_cases i hc
    · cases hstall.symm.trans h; exact .inr (.inl rfl)
    · cases hadmit.symm.trans h; exact .inr (.inr ⟨q, rfl⟩)
  case h_2 =>
    cases h
    exact .inr (.inr ⟨s.pc + 4, by simp only [illegalStage, hc]; rfl⟩)

/-- Line 11 as a whole writes no memory and no latch but `L.IF` and `L.ID`. -/
theorem fetch_frame (h : fetchStage (advanceIF s) = .next u) :
    u.mem = s.mem ∧ ∀ n, n ≠ .ifetch → n ≠ .id → u.slotAt n = s.slotAt n := by
  have hadvance : ∀ n, n ≠ .ifetch → n ≠ .id → (advanceIF s).slotAt n = s.slotAt n := fun n hif hid => by
    simp [advanceIF, State.slotAt_setLatch_other, hif, hid]
  obtain rfl | rfl | ⟨q, rfl⟩ := fetchStage_cases rfl h
  · exact ⟨rfl, hadvance⟩
  · exact ⟨rfl, hadvance⟩
  · refine ⟨rfl, fun n hif hid => ?_⟩
    rw [← hadvance n hif hid]
    exact State.slotAt_setLatch_other _ _ hif

/-- A slot that line 11 admits holds the record of the cell its `fpc` names. -/
theorem fetch_admits_memory (h : fetchStage (advanceIF s) = .next u) (hv : (u.slotAt .ifetch).valid = true) :
    (u.slotAt .ifetch).fields = decodeFields (readCell s.mem (fetchIndex (u.slotAt .ifetch).fpc)) := by
  have hempty : ((advanceIF s).slotAt .ifetch).valid = false := rfl
  obtain rfl | rfl | ⟨q, rfl⟩ := fetchStage_cases rfl h
  · rw [hempty] at hv; cases hv
  · cases hempty.symm.trans hv
  · rfl

/-! ### The accesses of one cycle -/

/-- A completed step ran its ten back-end stages, then the fetch, and counted the cycle. -/
theorem Completes.traversed {t : State} (h : Completes s t) :
    ∃ u v, runStages backEndOrder s = .next u ∧ u.halted = false ∧ fetchStage (advanceIF u) = .next v ∧ t = v.addCycle := by
  obtain ⟨⟨-, -, hrunning⟩, hstep, ht⟩ := h
  obtain ⟨-, -, ⟨hdone, -⟩ | ⟨-, v, hv, rfl⟩⟩ := step_cases hstep
  · simp [hrunning] at hdone
  have hhalted : v.halted = false := by
    cases hv' : v.halted with
    | false => rfl
    | true => rw [endCycle, if_pos hv'] at ht; exact hv'.symm.trans ht
  obtain ⟨u, hu, hu', hfetch⟩ := thenUnlessHalted_completes hv hhalted
  exact ⟨u, v, hu, hu', hfetch, by simp [endCycle, hhalted]⟩

/-- Mem2 of a LD that does not fault hands the cell to WB (44_load_store.md R151). -/
theorem runStage_mem2_ld (hv : (s.slotAt .mem2).valid = true) (hop : (s.slotAt .mem2).opcode = 5) (h : runStage .mem2 s = .next u)
    (hu : u.halted = false) : (u.slotAt .wb).right = readCell s.mem (s.slotAt .mem2).right.toNat := by
  have hi : (s.slotAt .mem2).fields.instr? = some (.ld (s.slotAt .mem2).dest (s.slotAt .mem2).left (s.slotAt .mem2).right) := by
    simp [Fields.instr?, Slot.fields, hop]
  cases (runStage_valid hv hi).symm.trans h
  obtain hlt | hge := Nat.lt_or_ge (s.slotAt .mem2).right.toNat 65536
  · rw [memRead_of_lt _ hlt]; rfl
  · simp [memRead_of_ge _ hge] at hu

/-- Mem1 of a ST that does not fault writes the cell (44_load_store.md R152). -/
theorem runStage_mem1_st (hv : (s.slotAt .mem1).valid = true) (hop : (s.slotAt .mem1).opcode = 6) (h : runStage .mem1 s = .next u)
    (hu : u.halted = false) : u.mem = writeCell s.mem (s.slotAt .mem1).left.toNat (s.slotAt .mem1).right := by
  have hi : (s.slotAt .mem1).fields.instr? = some (.st (s.slotAt .mem1).dest (s.slotAt .mem1).left (s.slotAt .mem1).right) := by
    simp [Fields.instr?, Slot.fields, hop]
  cases (runStage_valid hv hi).symm.trans h
  obtain hlt | hge := Nat.lt_or_ge (s.slotAt .mem1).left.toNat 65536
  · rw [memWrite_of_lt _ _ hlt]; rfl
  · simp [memWrite_of_ge _ _ hge] at hu

/-- Only WB goes before Mem2: its LD reads the memory of the start of the cycle, and no later stage overwrites the latch of WB. -/
theorem backEnd_load (h : runStages backEndOrder s = .next u) (hu : u.halted = false) (hv : (s.slotAt .mem2).valid = true)
    (hop : (s.slotAt .mem2).opcode = 5) : (u.slotAt .wb).right = readCell s.mem (s.slotAt .mem2).right.toNat := by
  obtain ⟨v, w, hbefore, hmem2, hw, hafter⟩ :=
    runStages_around (before := [.wb]) (after := [.mem1, .br, .div, .mul, .add, .rr, .ia, .id]) h hu
  have hslot : v.slotAt .mem2 = s.slotAt .mem2 := runStages_slotAt (by decide) (by decide) hbefore
  have hmem : v.mem = s.mem := runStages_mem (by decide) (by decide) hbefore
  have hwb : u.slotAt .wb = w.slotAt .wb := runStages_slotAt (by decide) (by decide) hafter
  rw [← hslot] at hv hop ⊢
  rw [hwb, ← hmem, runStage_mem2_ld hv hop hmem2 hw]

/-- No stage but Mem1 writes the memory: after the back end it is that of the start of the cycle with the ST written. -/
theorem backEnd_store (h : runStages backEndOrder s = .next u) (hu : u.halted = false) (hv : (s.slotAt .mem1).valid = true)
    (hop : (s.slotAt .mem1).opcode = 6) : u.mem = writeCell s.mem (s.slotAt .mem1).left.toNat (s.slotAt .mem1).right := by
  obtain ⟨v, w, hbefore, hmem1, hw, hafter⟩ :=
    runStages_around (before := [.wb, .mem2]) (after := [.br, .div, .mul, .add, .rr, .ia, .id]) h hu
  have hslot : v.slotAt .mem1 = s.slotAt .mem1 := runStages_slotAt (by decide) (by decide) hbefore
  have hmem : v.mem = s.mem := runStages_mem (by decide) (by decide) hbefore
  have hmem' : u.mem = w.mem := runStages_mem (by decide) (by decide) hafter
  rw [← hslot] at hv hop ⊢
  rw [hmem', ← hmem, runStage_mem1_st hv hop hmem1 hw]

end traversal

/-- Settles O38: the LD and the ST from the order of the back end, and the fetch, which writes neither the memory nor the latch of WB,
after both. -/
theorem loadThenStoreThenFetchInOneCycle : Obligations.LoadThenStoreThenFetchInOneCycle := by
  intro s t hcompletes
  obtain ⟨u, v, hback, hu, hfetch, rfl⟩ := hcompletes.traversed
  obtain ⟨hmem, hslots⟩ := fetch_frame hfetch
  refine ⟨fun hv hop => ?_, fun hv hop => ?_, fun hv => ?_⟩
  · exact (congrArg Slot.right (hslots .wb (by decide) (by decide))).trans (backEnd_load hback hu hv hop)
  · exact hmem.trans (backEnd_store hback hu hv hop)
  · rw [State.addCycle_mem, hmem]
    exact fetch_admits_memory (u := v) hfetch hv

end Sys2Proof.Machine

/-! The packing of 30_encoding.md R72 and R73. An encoded word is four bytes side by side, each read back on its own; what a byte keeps of
an operand is settled on signed values, where taking the low byte is the balanced remainder modulo 256 and `sext8` changes nothing. -/

namespace Sys2Proof

/-! ### An operand and its low byte -/

theorem toInt_lowByte (v : Word) : (v.extractLsb' 0 8).toInt = v.toInt.bmod 256 := by
  rw [← BitVec.setWidth_eq_extractLsb' (by decide), ← BitVec.signExtend_eq_setWidth_of_le v (by decide),
    BitVec.toInt_signExtend_eq_toInt_bmod_of_le v (by decide)]

@[simp] theorem toInt_sext8 (b : Byte) : (sext8 b).toInt = b.toInt := BitVec.toInt_signExtend_of_le (by decide)

@[simp] theorem lowByte_sext8 (b : Byte) : (sext8 b).extractLsb' 0 8 = b := by
  rw [← BitVec.toInt_inj, toInt_lowByte, toInt_sext8]
  exact b.toInt_bmod_cancel

/-- R73's bound is exact: the operands in -128..127 are those that their low byte determines. -/
theorem sext8_lowByte_iff (v : Word) : sext8 (v.extractLsb' 0 8) = v ↔ FitsByte v := by
  rw [← BitVec.toInt_inj, toInt_sext8, toInt_lowByte, Int.bmod_eq_iff (by decide)]
  omega

/-! ### The four bytes of a word -/

@[simp] theorem encodeFields_opcode (f : Fields) : (encodeFields f).extractLsb' 24 8 = f.opcode := by
  rw [encodeFields, BitVec.extractLsb'_append_eq_of_le (by decide), BitVec.extractLsb'_append_eq_of_le (by decide)]
  exact BitVec.extractLsb'_append_eq_left

@[simp] theorem encodeFields_dest (f : Fields) : (encodeFields f).extractLsb' 16 8 = f.dest := by
  rw [encodeFields, BitVec.extractLsb'_append_eq_of_le (by decide), BitVec.extractLsb'_append_eq_of_le (by decide)]
  exact BitVec.extractLsb'_append_eq_right

@[simp] theorem encodeFields_left (f : Fields) : (encodeFields f).extractLsb' 8 8 = f.left.extractLsb' 0 8 := by
  rw [encodeFields, BitVec.extractLsb'_append_eq_of_le (by decide)]
  exact BitVec.extractLsb'_append_eq_right

@[simp] theorem encodeFields_right (f : Fields) : (encodeFields f).extractLsb' 0 8 = f.right.extractLsb' 0 8 :=
  BitVec.extractLsb'_append_eq_right

theorem append_bytes (w : Word) : w.extractLsb' 24 8 ++ w.extractLsb' 16 8 ++ w.extractLsb' 8 8 ++ w.extractLsb' 0 8 = w := by
  rw [BitVec.extractLsb'_append_extractLsb'_eq_extractLsb' (by decide),
    BitVec.extractLsb'_append_extractLsb'_eq_extractLsb' (by decide), BitVec.extractLsb'_append_extractLsb'_eq_extractLsb' (by decide)]
  exact BitVec.extractLsb'_eq_self

/-! ### The round trips -/

/-- Any record comes back from its word with each operand cut to its low byte. -/
theorem decodeFields_encodeFields (f : Fields) :
    decodeFields (encodeFields f) =
      { f with left := sext8 (f.left.extractLsb' 0 8), right := sext8 (f.right.extractLsb' 0 8) } := by
  simp [decodeFields]

theorem decodeFields_encodeFields_of_encodable {f : Fields} (h : f.Encodable) : decodeFields (encodeFields f) = f := by
  obtain ⟨hleft, hright⟩ := h
  rw [decodeFields_encodeFields, (sext8_lowByte_iff _).mpr hleft, (sext8_lowByte_iff _).mpr hright]

theorem encodeFields_decodeFields (w : Word) : encodeFields (decodeFields w) = w := by
  simp only [encodeFields, decodeFields, lowByte_sext8]
  exact append_bytes w

/-- Settles O1, from the two round trips; the packing is the definition of the encoder. -/
theorem encodeInvertsDecode : Obligations.EncodeInvertsDecode :=
  ⟨fun _ h => ⟨rfl, decodeFields_encodeFields_of_encodable h⟩, encodeFields_decodeFields⟩

end Sys2Proof

/-! What the fetch of a cycle sees and does (41_fetch_hazard.md). It comes last in the traversal, so its inputs are read off the back end:
`pc` as BR left it, the slot that IA moved into RR, `L.IF` as it was at the start of the cycle. -/

namespace Sys2Proof.Machine

/-! ### What the back end leaves for the fetch -/

/-- Of what the fetch reads or counts, no stage before it writes STALLS, and only BR writes `pc`. -/
def FetchFrame (s t : State) : Prop := t.stalls = s.stalls ∧ (s.cursor ≠ .br → t.pc = s.pc)

@[simp] theorem FetchFrame.refl (s : State) : FetchFrame s s := ⟨rfl, fun _ => rfl⟩

section backEnd
variable {s t : State}

@[simp] theorem fetchFrame_setRegs (x : Vector Word 16) : FetchFrame s (t.setRegs x) ↔ FetchFrame s t := Iff.rfl
@[simp] theorem fetchFrame_setMem (m : Memory) : FetchFrame s (t.setMem m) ↔ FetchFrame s t := Iff.rfl
@[simp] theorem fetchFrame_addCommit : FetchFrame s t.addCommit ↔ FetchFrame s t := Iff.rfl
@[simp] theorem fetchFrame_reportIllegal : FetchFrame s t.reportIllegal ↔ FetchFrame s t := Iff.rfl
@[simp] theorem fetchFrame_raiseFault (c : FaultCause) : FetchFrame s (raiseFault c t) ↔ FetchFrame s t := Iff.rfl

@[simp] theorem fetchFrame_deliver (sl : Slot) : FetchFrame s (deliver sl t) ↔ FetchFrame s t := by
  unfold deliver
  split <;> rfl

@[simp] theorem fetchFrame_passFields (f : Fields) : FetchFrame s (passFields f t) ↔ FetchFrame s t := fetchFrame_deliver _
@[simp] theorem fetchFrame_passOn (i : Instr) : FetchFrame s (passOn i t) ↔ FetchFrame s t := fetchFrame_passFields _

@[simp] theorem fetchFrame_resolve (c : Bool) (a : Word) (hc : s.cursor = .br) : FetchFrame s (resolve c a s) := by
  obtain ⟨q, p, b, h⟩ := resolve_frame c a s
  rw [h]
  exact ⟨rfl, fun hne => absurd hc hne⟩

/-- An operation that may raise stays in the frame when going on with each value it can give does. -/
theorem fetchFrame_orFault {α : Type} {r : Except FaultCause α} {go : α → State} (h : ∀ v, r = .ok v → FetchFrame s (go v)) :
    FetchFrame s (orFault r s go) := by
  obtain ⟨v, hv, hgo⟩ | ⟨c, -, hraise⟩ := orFault_cases r s go
  · exact hgo ▸ h v hv
  · simp [hraise]

@[simp] theorem fetchFrame_commitResult (d : Byte) (v : Word) : FetchFrame s (commitResult d v s) := by
  obtain hd | hd := Nat.lt_or_ge d.toNat 16
  · simp [commitResult_of_lt v s hd]
  · simp [commitResult_of_ge v s hd]

theorem fetchFrame_of_memWrite {a v : Word} (h : memWrite a v s = .ok t) : FetchFrame s t := by
  unfold memWrite at h
  split at h
  · cases h; simp
  · cases h

/-- The instructions' actions stay in the frame, in every stage but IF. -/
theorem exec_fetchFrame {i : Instr} (hc : s.cursor ≠ .ifetch) (h : exec i s = .next t) : FetchFrame s t := by
  cases i with
  | st d l r =>
    simp only [exec, execSt] at h
    split at h <;> cases h
    case h_1 hif => exact absurd hif hc
    case h_2 => exact fetchFrame_orFault fun v hv => (fetchFrame_passOn _).mpr (fetchFrame_of_memWrite hv)
    all_goals simp
  | _ =>
    simp only [exec, execSet, execAdd, execSub, execMul, execDiv, execLd, execBez, execBgez, execBlez, execBgtz, execBltz,
      execRet] at h
    split at h <;> cases h <;> simp_all [fetchFrame_orFault]

theorem illegalStage_fetchFrame (f : Fields) (hc : s.cursor ≠ .ifetch) : FetchFrame s (illegalStage f s) := by
  unfold illegalStage
  split
  case h_1 hif => exact absurd hif hc
  all_goals simp

/-- A stage of the back end, bubbles and illegal slots included. -/
theorem runStage_fetchFrame {st : Stage} (hst : st ≠ .ifetch) (h : runStage st s = .next t) : FetchFrame (s.setCursor st) t := by
  cases hv : (s.slotAt st).valid with
  | false =>
    cases (runStage_bubble hv).symm.trans h
    simp
  | true =>
    cases hi : (s.slotAt st).fields.instr? with
    | some i => exact exec_fetchFrame hst ((runStage_valid hv hi).symm.trans h)
    | none =>
      cases (runStage_illegal hv hi).symm.trans h
      exact illegalStage_fetchFrame _ hst

theorem runStages_stalls {order : List Stage} (hif : .ifetch ∉ order) (h : runStages order s = .next t) : t.stalls = s.stalls :=
  runStages_keeps State.stalls (fun _ hst _ _ hrun => (runStage_fetchFrame (ne_of_mem_of_not_mem hst hif) hrun).1) h

theorem runStages_pc {order : List Stage} (hif : .ifetch ∉ order) (hbr : .br ∉ order) (h : runStages order s = .next t) :
    t.pc = s.pc :=
  runStages_keeps State.pc
    (fun _ hst _ _ hrun => (runStage_fetchFrame (ne_of_mem_of_not_mem hst hif) hrun).2 (ne_of_mem_of_not_mem hst hbr)) h

theorem runStages_progLen {order : List Stage} (h : runStages order s = .next t) : t.progLen = s.progLen := by
  obtain ⟨_, hu, -, hlen, -⟩ := runStages_stageOutcome order s
  cases hu.symm.trans h
  exact hlen

/-! ### BR and `pc` -/

@[simp] theorem deliver_pc (sl : Slot) : (deliver sl s).pc = s.pc := by
  unfold deliver
  split <;> rfl

@[simp] theorem passFields_pc (f : Fields) : (passFields f s).pc = s.pc := deliver_pc _
@[simp] theorem passOn_pc (i : Instr) : (passOn i s).pc = s.pc := passFields_pc _

@[simp] theorem predUpdateAt_pc (a : Word) (c : Bool) (q : Word) : (predUpdateAt a c q s).pc = s.pc := by
  obtain ⟨p, b, h⟩ := predUpdateAt_frame a c q s
  rw [h]

@[simp] theorem resolve_pc (c : Bool) (a : Word) : (resolve c a s).pc = if c then a else s.pc := by
  cases c <;> simp [resolve, apply_ite State.pc]

/-- The BR action on `pc` by opcode number (45_branches.md R160); an instruction that is no branch leaves it. -/
theorem exec_br_pc {i : Instr} (hc : s.cursor = .br) (h : exec i s = .next t) :
    t.pc = if branchTaken i.opcode i.right then i.left else s.pc := by
  cases i
  all_goals
    simp only [exec, execSet, execAdd, execSub, execMul, execDiv, execLd, execSt, execBez, execBgez, execBlez, execBgtz, execBltz,
      execRet, hc] at h
    cases h
    simp [branchTaken, Instr.opcode, Instr.left, Instr.right]

theorem branchTaken_of_illegal {f : Fields} (h : f.instr? = none) (v : Word) : branchTaken f.opcode v = false := by
  unfold Fields.instr? at h
  unfold branchTaken
  split at h <;> simp_all

theorem runStage_br_pc (h : runStage .br s = .next t) : t.pc = pcAtFetch s := by
  have hdef : pcAtFetch s = if (s.slotAt .br).valid && branchTaken (s.slotAt .br).opcode (s.slotAt .br).right
      then (s.slotAt .br).left else s.pc := rfl
  rw [hdef]
  cases hv : (s.slotAt .br).valid with
  | false =>
    cases (runStage_bubble hv).symm.trans h
    rfl
  | true =>
    cases hi : (s.slotAt .br).fields.instr? with
    | some i =>
      obtain ⟨hop, -, hleft, hright⟩ := Fields.mk.inj (fields_of_instr hi)
      simp [exec_br_pc rfl ((runStage_valid hv hi).symm.trans h), hop, hleft, hright]
    | none =>
      cases (runStage_illegal hv hi).symm.trans h
      have htaken : branchTaken (s.slotAt .br).opcode (s.slotAt .br).right = false := branchTaken_of_illegal hi _
      simp [illegalStage, htaken]

/-- The stages before BR leave its slot and `pc`, and those after it leave `pc`. -/
theorem backEnd_pc (h : runStages backEndOrder s = .next t) (ht : t.halted = false) : t.pc = pcAtFetch s := by
  obtain ⟨v, w, hbefore, hbr, -, hafter⟩ :=
    runStages_around (before := [.wb, .mem2, .mem1]) (after := [.div, .mul, .add, .rr, .ia, .id]) h ht
  have hslot : v.latches.br = s.latches.br := runStages_slotAt (n := .br) (by decide) (by decide) hbefore
  have hpc : v.pc = s.pc := runStages_pc (by decide) (by decide) hbefore
  rw [runStages_pc (by decide) (by decide) hafter, runStage_br_pc hbr, pcAtFetch, hslot, hpc]

/-! ### IA and the comparator's slot -/

/-- IA passes every instruction on with the `dest` it came with (40_pipeline_cycle.md R96, 43_set_arith.md R142). -/
theorem exec_ia_passes {i : Instr} (hc : s.cursor = .ia) (h : exec i s = .next t) : ∃ j : Instr, t = passOn j s ∧ j.dest = i.dest := by
  cases i
  all_goals
    simp only [exec, execSet, execAdd, execSub, execMul, execDiv, execLd, execSt, execBez, execBgez, execBlez, execBgtz, execBltz,
      execRet, hc] at h
    cases h
    exact ⟨_, rfl, rfl⟩

theorem runStage_ia_rr (h : runStage .ia s = .next t) :
    (t.slotAt .rr).valid = (s.slotAt .ia).valid ∧ (t.slotAt .rr).dest = (s.slotAt .ia).dest := by
  cases hv : (s.slotAt .ia).valid with
  | false =>
    cases (runStage_bubble hv).symm.trans h
    exact ⟨hv, rfl⟩
  | true =>
    cases hi : (s.slotAt .ia).fields.instr? with
    | some i =>
      obtain ⟨j, rfl, hdest⟩ := exec_ia_passes rfl ((runStage_valid hv hi).symm.trans h)
      exact ⟨rfl, hdest.trans (congrArg Fields.dest (fields_of_instr hi))⟩
    | none =>
      cases (runStage_illegal hv hi).symm.trans h
      exact ⟨rfl, rfl⟩

theorem advanceIF_rr (s : State) : (advanceIF s).slotAt .rr = s.slotAt .rr := rfl

/-- The RR latch that the comparator of 41_fetch_hazard.md R117 sees is filled from the IA latch of the start of the cycle. -/
theorem backEnd_hazard_iff (h : runStages backEndOrder s = .next t) (ht : t.halted = false) (l : Word) :
    hazard l (advanceIF t) = true ↔ s.latches.ia.valid = true ∧ l = s.latches.ia.dest.setWidth 32 := by
  obtain ⟨v, w, hbefore, hia, -, hafter⟩ :=
    runStages_around (before := [.wb, .mem2, .mem1, .br, .div, .mul, .add, .rr]) (after := [.id]) h ht
  have hslot : v.slotAt .ia = s.slotAt .ia := runStages_slotAt (by decide) (by decide) hbefore
  have hrr : t.slotAt .rr = w.slotAt .rr := runStages_slotAt (by decide) (by decide) hafter
  obtain ⟨hvalid, hdest⟩ := runStage_ia_rr hia
  rw [hazard_iff, advanceIF_rr, hrr, hvalid, hdest, hslot]
  rfl

end backEnd

/-! ### What the fetch does -/

section fetch
variable {s u : State}

/-- Line 11 fills `L.ID` from `L.IF`, and `L.IF` from nothing but the word at `pc` (41_fetch_hazard.md R111, R112). -/
theorem fetch_latches (h : fetchStage (advanceIF s) = .next u) :
    u.slotAt .id = s.slotAt .ifetch ∧
      (u.slotAt .ifetch = .empty ∨ u.slotAt .ifetch = .ofFields (decodeFields (readCell s.mem (s.pc.toNat / 4))) s.pc) := by
  obtain rfl | rfl | ⟨q, rfl⟩ := fetchStage_cases rfl h
  · exact ⟨rfl, .inl rfl⟩
  · exact ⟨rfl, .inl rfl⟩
  · exact ⟨rfl, .inr rfl⟩

/-- IF of an instruction that is neither a branch nor stalled by the hazard (41_fetch_hazard.md R119). -/
theorem exec_ifetch_admits {i : Instr} (hc : s.cursor = .ifetch) (hbranch : ¬(7 ≤ i.opcode.toNat ∧ i.opcode.toNat ≤ 11))
    (hhazard : i.opcode = 5 ∨ i.opcode = 6 → hazard i.left s = false) : exec i s = .next (admitFields i.fields s) := by
  cases i with
  | ld d l r => simp only [exec, execLd, hc, admitMemory_of_no_hazard (hhazard (.inl rfl)), admitInstr]
  | st d l r => simp only [exec, execSt, hc, admitMemory_of_no_hazard (hhazard (.inr rfl)), admitInstr]
  | bez | bgez | blez | bgtz | bltz => simp [Instr.opcode] at hbranch
  | _ => simp only [exec, execSet, execAdd, execSub, execMul, execDiv, execRet, hc, admitInstr]

/-- IF does not look at an opcode outside the set (30_encoding.md R75). -/
theorem illegalStage_ifetch (f : Fields) (hc : s.cursor = .ifetch) : illegalStage f s = admitFields f s := by simp [illegalStage, hc]

/-- The fetch of a record that is neither a branch nor stalled, its opcode in the set or not. -/
theorem fetch_admits {f : Fields} (hf : decodeFields (fetchWord (advanceIF s)) = f) (hpc : s.pc.toNat < 4 * s.progLen)
    (hbranch : ¬(7 ≤ f.opcode.toNat ∧ f.opcode.toNat ≤ 11))
    (hhazard : f.opcode = 5 ∨ f.opcode = 6 → hazard f.left (advanceIF s) = false) :
    fetchStage (advanceIF s) = .next (admitFields f (advanceIF s)) := by
  have hempty : ((advanceIF s).slotAt .ifetch).valid = false := rfl
  have hopen : (advanceIF s).fetchExhausted = false := decide_eq_false (Nat.not_le.mpr hpc)
  cases hw : decode (fetchWord (advanceIF s)) with
  | ok i =>
    obtain rfl : i.fields = f := (fields_of_decode hw).trans hf
    simpa [fetchStage, hempty, hopen, hw] using exec_ifetch_admits rfl hbranch hhazard
  | error r => simp [fetchStage, hempty, hopen, hw, hf, illegalStage_ifetch f (s := advanceIF s) rfl]

end fetch

/-- Settles O39: the back end leaves `L.IF` and hands `pc` over as BR left it, and line 11 fills the two latches. -/
theorem fetchHandsItsSlotToIdUnchanged : Obligations.FetchHandsItsSlotToIdUnchanged := by
  intro s t hcompletes
  obtain ⟨u, v, hback, hu, hfetch, rfl⟩ := hcompletes.traversed
  obtain ⟨hmem, -⟩ := fetch_frame hfetch
  obtain ⟨hid, hif⟩ := fetch_latches hfetch
  have hkept : u.slotAt .ifetch = s.slotAt .ifetch := runStages_slotAt (by decide) (by decide) hback
  rw [backEnd_pc hback hu, ← hmem] at hif
  exact ⟨hid.trans hkept, hif⟩

/-- Settles O42: with the inputs the back end leaves, the fetch is the admission of R119, which changes nothing but `L.IF` and `pc`. -/
theorem admissionAdvancesPcByFour : Obligations.AdmissionAdvancesPcByFour := by
  intro s t hcompletes hlt f hbranch hhazard
  obtain ⟨u, v, hback, hu, hfetch, rfl⟩ := hcompletes.traversed
  obtain ⟨hmem, -⟩ := fetch_frame hfetch
  have hpc : u.pc = pcAtFetch s := backEnd_pc hback hu
  have hword : decodeFields (fetchWord (advanceIF u)) = f := by
    simp only [f, State.addCycle_mem, hmem, ← hpc]
    rfl
  have hopen : u.pc.toNat < 4 * u.progLen := by rwa [hpc, runStages_progLen hback]
  have hclear : f.opcode = 5 ∨ f.opcode = 6 → hazard f.left (advanceIF u) = false := fun hop => by
    rw [Bool.eq_false_iff, ne_eq, backEnd_hazard_iff hback hu]
    exact fun hmeets => hhazard ⟨hop, hmeets⟩
  have hv : v = admitFields f (advanceIF u) := Host.Outcome.next.inj (hfetch.symm.trans (fetch_admits hword hopen hbranch hclear))
  have hstalls : u.stalls = s.stalls := runStages_stalls (by decide) hback
  rw [hv, ← hpc]
  exact ⟨rfl, rfl, hstalls⟩

end Sys2Proof.Machine

/-! The branch predictor (42_branch_predictor.md). An address reaches the two tables through its index alone, and an update writes no other
entry. In the cycle, every stage but BR leaves the tables as they are: those at its end are the ones BR left, which are also the ones the
fetch of a branch asked. -/

namespace Sys2Proof.Machine

/-! ### The index -/

/-- The index is a field of the low six bits of the address (42_branch_predictor.md R130). -/
theorem predIndex_eq_of_mod_64 {a b : Word} (h : a.toNat % 64 = b.toNat % 64) : predIndex a = predIndex b := by
  apply BitVec.eq_of_toNat_eq
  simp only [predIndex, BitVec.extractLsb'_toNat, Nat.shiftRight_eq_div_pow]
  omega

/-- Settles O21: the tables are read and written at the index, and the address is used for nothing else but the next word. -/
theorem aliasedBranchesShareOneEntry : Obligations.AliasedBranchesShareOneEntry := by
  intro a b s hmod
  have hindex : predIndex a = predIndex b := predIndex_eq_of_mod_64 hmod
  refine ⟨hindex, by simp only [predict, hindex], fun htaken => ?_, fun c t => by simp only [predUpdateAt, hindex]⟩
  have hcounter : 1 < (s.ptAt (predIndex a)).toNat := of_decide_eq_true htaken
  simp [predict, ← hindex, hcounter]

/-! ### One entry of a table -/

section entries
variable (s : State) (i j : BitVec 4)

theorem ptAt_setPt (c : BitVec 2) : (s.setPt i c).ptAt j = if j = i then c else s.ptAt j := by
  simp [State.ptAt, Vector.getElem_set, BitVec.toNat_inj, eq_comm]

theorem btbAt_setBtb (t : Word) : (s.setBtb i t).btbAt j = if j = i then t else s.btbAt j := by
  simp [State.btbAt, Vector.getElem_set, BitVec.toNat_inj, eq_comm]

end entries

theorem satInc_toNat (c : BitVec 2) : (satInc c).toNat = min (c.toNat + 1) 3 := by
  revert c
  decide

theorem satDec_toNat (c : BitVec 2) : (satDec c).toNat = c.toNat - 1 := by
  revert c
  decide

section update
variable (a t : Word) (s : State) (j : BitVec 4)

theorem predUpdateAt_taken_ptAt : ((predUpdateAt a true t s).ptAt j).toNat =
    if j = predIndex a then min ((s.ptAt j).toNat + 1) 3 else (s.ptAt j).toNat := by
  simp only [predUpdateAt, if_true, State.setBtb_ptAt, ptAt_setPt]
  split
  next hj => rw [hj, satInc_toNat]
  next => rfl

theorem predUpdateAt_notTaken_ptAt : ((predUpdateAt a false t s).ptAt j).toNat =
    if j = predIndex a then (s.ptAt j).toNat - 1 else (s.ptAt j).toNat := by
  simp only [predUpdateAt, Bool.false_eq_true, if_false, ptAt_setPt]
  split
  next hj => rw [hj, satDec_toNat]
  next => rfl

theorem predUpdateAt_taken_btbAt : (predUpdateAt a true t s).btbAt j = if j = predIndex a then t else s.btbAt j :=
  btbAt_setBtb _ _ _ _

theorem predUpdateAt_notTaken_btbAt : (predUpdateAt a false t s).btbAt j = s.btbAt j := rfl

theorem predUpdateAt_keeps_rest (c : Bool) :
    predUpdateAt a c t s = { s with pt := (predUpdateAt a c t s).pt, btb := (predUpdateAt a c t s).btb } := by
  obtain ⟨p, b, h⟩ := predUpdateAt_frame a c t s
  rw [h]

end update

/-! ### The two tables as one -/

/-- The predictor's state: the pattern table and the branch target table (10_state.md R27). -/
def State.predictor (s : State) : Vector (BitVec 2) 16 × Vector Word 16 := (s.pt, s.btb)

/-- The tables this cycle's fetch sees and the cycle leaves: after BR, from the contents at the start of the cycle
(42_branch_predictor.md R128). -/
def predictorAtFetch (s : State) : Vector (BitVec 2) 16 × Vector Word 16 :=
  let sl := s.slotAt .br
  if s.predUpdate = true ∧ sl.valid = true ∧ 7 ≤ sl.opcode.toNat ∧ sl.opcode.toNat ≤ 11
  then (predUpdateAt sl.fpc (branchTaken sl.opcode sl.right) sl.left s).predictor else s.predictor

section predictor
variable {s t : State}

/-- A prediction reads nothing of the state but the tables. -/
theorem predict_congr (a : Word) (h : s.predictor = t.predictor) : predict a s = predict a t := by
  obtain ⟨hpt, hbtb⟩ := Prod.mk.inj h
  have hptAt : ∀ j, s.ptAt j = t.ptAt j := fun j => by simp only [State.ptAt, hpt]
  have hbtbAt : ∀ j, s.btbAt j = t.btbAt j := fun j => by simp only [State.btbAt, hbtb]
  simp only [predict, hptAt, hbtbAt]

/-- The tables after an update depend on nothing of the state but the tables before it. -/
theorem predUpdateAt_predictor_congr (a q : Word) (c : Bool) (h : s.predictor = t.predictor) :
    (predUpdateAt a c q s).predictor = (predUpdateAt a c q t).predictor := by
  obtain ⟨hpt, hbtb⟩ := Prod.mk.inj h
  cases c <;> simp [predUpdateAt, State.predictor, State.ptAt, hpt, hbtb]

@[simp] theorem setLatch_predictor (st : Stage) (sl : Slot) : (s.setLatch st sl).predictor = s.predictor := rfl
@[simp] theorem setCursor_predictor (st : Stage) : (s.setCursor st).predictor = s.predictor := rfl
@[simp] theorem setPc_predictor (q : Word) : (s.setPc q).predictor = s.predictor := rfl
@[simp] theorem setMem_predictor (m : Memory) : (s.setMem m).predictor = s.predictor := rfl
@[simp] theorem setRegs_predictor (x : Vector Word 16) : (s.setRegs x).predictor = s.predictor := rfl
@[simp] theorem addStall_predictor : s.addStall.predictor = s.predictor := rfl
@[simp] theorem addCommit_predictor : s.addCommit.predictor = s.predictor := rfl
@[simp] theorem reportIllegal_predictor : s.reportIllegal.predictor = s.predictor := rfl
@[simp] theorem raiseFault_predictor (c : FaultCause) : (raiseFault c s).predictor = s.predictor := rfl
@[simp] theorem admitFields_predictor (f : Fields) : (admitFields f s).predictor = s.predictor := rfl

@[simp] theorem deliver_predictor (sl : Slot) : (deliver sl s).predictor = s.predictor := by
  unfold deliver
  split <;> rfl

@[simp] theorem passFields_predictor (f : Fields) : (passFields f s).predictor = s.predictor := deliver_predictor _
@[simp] theorem passOn_predictor (i : Instr) : (passOn i s).predictor = s.predictor := passFields_predictor _

/-- An operation that may raise keeps the tables when going on with each value it can give does. -/
theorem orFault_predictor {α : Type} {r : Except FaultCause α} {go : α → State}
    (h : ∀ v, r = .ok v → (go v).predictor = s.predictor) : (orFault r s go).predictor = s.predictor := by
  obtain ⟨v, hv, hgo⟩ | ⟨c, -, hraise⟩ := orFault_cases r s go
  · exact hgo ▸ h v hv
  · simp [hraise]

@[simp] theorem commitResult_predictor (d : Byte) (v : Word) : (commitResult d v s).predictor = s.predictor := by
  obtain hd | hd := Nat.lt_or_ge d.toNat 16
  · simp [commitResult_of_lt v s hd]
  · simp [commitResult_of_ge v s hd]

theorem predictor_of_memWrite {a v : Word} (h : memWrite a v s = .ok t) : t.predictor = s.predictor := by
  unfold memWrite at h
  split at h
  · cases h; simp
  · cases h

/-! ### Only BR writes the tables -/

/-- No instruction's action writes the tables outside BR. -/
theorem exec_predictor {i : Instr} (hc : s.cursor ≠ .br) (h : exec i s = .next t) : t.predictor = s.predictor := by
  by_cases hif : s.cursor = .ifetch
  · obtain hstall | ⟨q, hadmit⟩ := exec_ifetch_cases i hif
    · cases hstall.symm.trans h; rfl
    · cases hadmit.symm.trans h; rfl
  cases i with
  | st d l r =>
    simp only [exec, execSt] at h
    split at h <;> cases h
    case h_1 => exact absurd ‹_› hif
    case h_2 => exact orFault_predictor fun v hv => (passOn_predictor _).trans (predictor_of_memWrite hv)
    all_goals simp
  | _ =>
    simp only [exec, execSet, execAdd, execSub, execMul, execDiv, execLd, execBez, execBgez, execBlez, execBgtz, execBltz,
      execRet] at h
    split at h <;> cases h <;> simp_all [orFault_predictor]

@[simp] theorem illegalStage_predictor (f : Fields) : (illegalStage f s).predictor = s.predictor := by
  unfold illegalStage
  split <;> simp

/-- A stage other than BR, bubbles and illegal slots included. -/
theorem runStage_predictor {st : Stage} (hst : st ≠ .br) (h : runStage st s = .next t) : t.predictor = s.predictor := by
  cases hv : (s.slotAt st).valid with
  | false =>
    cases (runStage_bubble hv).symm.trans h
    simp
  | true =>
    cases hi : (s.slotAt st).fields.instr? with
    | some i => exact exec_predictor (s := s.setCursor st) hst ((runStage_valid hv hi).symm.trans h)
    | none =>
      cases (runStage_illegal hv hi).symm.trans h
      simp

theorem runStages_predictor {order : List Stage} (hbr : .br ∉ order) (h : runStages order s = .next t) :
    t.predictor = s.predictor :=
  runStages_keeps State.predictor (fun _ hst _ _ => runStage_predictor (ne_of_mem_of_not_mem hst hbr)) h

theorem runStages_predUpdate {order : List Stage} (h : runStages order s = .next t) : t.predUpdate = s.predUpdate := by
  obtain ⟨_, hu, -, -, hupdate⟩ := runStages_stageOutcome order s
  cases hu.symm.trans h
  exact hupdate

theorem fetch_predictor (h : fetchStage (advanceIF s) = .next t) : t.predictor = s.predictor := by
  obtain rfl | rfl | ⟨q, rfl⟩ := fetchStage_cases rfl h <;> rfl

/-! ### What BR does to the tables -/

/-- The BR action of every instruction, by opcode number (45_branches.md R160): a branch resolves, any other moves on. -/
theorem exec_br (i : Instr) (hc : s.cursor = .br) : exec i s = .next (passOn i
    (if 7 ≤ i.opcode.toNat ∧ i.opcode.toNat ≤ 11 then resolve (branchTaken i.opcode i.right) i.left s else s)) := by
  cases i
  all_goals
    simp only [exec, execSet, execAdd, execSub, execMul, execDiv, execLd, execSt, execBez, execBgez, execBlez, execBgtz, execBltz,
      execRet, hc]
    rfl

theorem resolve_predictor (c : Bool) (q : Word) : (resolve c q s).predictor =
    if s.predUpdate = true then (predUpdateAt (s.slotAt s.cursor).fpc c q s).predictor else s.predictor := by
  cases c <;> simp only [resolve, apply_ite State.predictor] <;> rfl

/-- The opcode map names an instruction for every number up to 12 (30_encoding.md R74). -/
theorem opcode_gt_of_illegal {f : Fields} (h : f.instr? = none) : 12 < f.opcode.toNat := by
  by_contra hle
  have hop : f.opcode.toNat ≤ 12 := Nat.not_lt.mp hle
  unfold Fields.instr? at h
  interval_cases f.opcode.toNat <;> cases h

theorem runStage_br_predictor (h : runStage .br s = .next t) : t.predictor = predictorAtFetch s := by
  unfold predictorAtFetch
  cases hv : (s.slotAt .br).valid with
  | false =>
    cases (runStage_bubble hv).symm.trans h
    simp [hv]
  | true =>
    cases hi : (s.slotAt .br).fields.instr? with
    | some i =>
      obtain ⟨hop, -, hleft, hright⟩ := Fields.mk.inj (fields_of_instr hi)
      rw [runStage_valid hv hi, exec_br i rfl] at h
      cases h
      have hcongr := fun a q c => predUpdateAt_predictor_congr (t := s) a q c (setCursor_predictor .br)
      simp only [passOn_predictor, apply_ite State.predictor, resolve_predictor, hcongr, hop, hleft, hright]
      cases hupdate : s.predUpdate <;> simp [hv, hupdate]
    | none =>
      have hgt : 12 < (s.slotAt .br).opcode.toNat := opcode_gt_of_illegal hi
      cases (runStage_illegal hv hi).symm.trans h
      rw [if_neg (by omega)]
      simp

/-- The stages before BR leave its slot, PRED_UPDATE and the tables, and those after it leave the tables. -/
theorem backEnd_predictor (h : runStages backEndOrder s = .next t) (ht : t.halted = false) : t.predictor = predictorAtFetch s := by
  obtain ⟨v, w, hbefore, hbr, -, hafter⟩ :=
    runStages_around (before := [.wb, .mem2, .mem1]) (after := [.div, .mul, .add, .rr, .ia, .id]) h ht
  have hslot : v.slotAt .br = s.slotAt .br := runStages_slotAt (by decide) (by decide) hbefore
  have htables : v.predictor = s.predictor := runStages_predictor (by decide) hbefore
  rw [runStages_predictor (by decide) hafter, runStage_br_predictor hbr]
  simp only [predictorAtFetch, hslot, runStages_predUpdate hbefore, htables, predUpdateAt_predictor_congr _ _ _ htables]

/-! ### The fetch of a branch -/

/-- IF of a branch: never stalled, `pc` at the predicted target (41_fetch_hazard.md R116). -/
theorem exec_ifetch_branch {i : Instr} (hc : s.cursor = .ifetch) (hlo : 7 ≤ i.opcode.toNat) (hhi : i.opcode.toNat ≤ 11) :
    exec i s = .next (admitBranch i s) := by
  cases i with
  | bez | bgez | blez | bgtz | bltz => simp only [exec, execBez, execBgez, execBlez, execBgtz, execBltz, hc]
  | set | add | sub | mul | div | ld | st => simp [Instr.opcode] at hlo
  | ret => simp [Instr.opcode] at hhi

theorem decode_of_opcode_le {w : Word} (h : (decodeFields w).opcode.toNat ≤ 12) : ∃ i, decode w = .ok i := by
  unfold decode
  split
  next i _ => exact ⟨i, rfl⟩
  next hi => exact absurd (opcode_gt_of_illegal hi) (Nat.not_lt.mpr h)

/-- The fetch of a branch moves `pc` to the target predicted for it. -/
theorem fetch_branch_pc (h : fetchStage (advanceIF s) = .next t) (hpc : s.pc.toNat < 4 * s.progLen)
    (hlo : 7 ≤ (decodeFields (fetchWord s)).opcode.toNat) (hhi : (decodeFields (fetchWord s)).opcode.toNat ≤ 11) :
    t.pc = (predict s.pc s).2 := by
  have hempty : ((advanceIF s).slotAt .ifetch).valid = false := rfl
  have hopen : (advanceIF s).fetchExhausted = false := decide_eq_false (Nat.not_le.mpr hpc)
  obtain ⟨i, hi⟩ : ∃ i, decode (fetchWord (advanceIF s)) = .ok i := decode_of_opcode_le (Nat.le_succ_of_le hhi)
  have hop : i.opcode = (decodeFields (fetchWord s)).opcode := congrArg Fields.opcode (fields_of_decode hi)
  have hexec : exec i (advanceIF s) = .next (admitBranch i (advanceIF s)) :=
    exec_ifetch_branch rfl (hop ▸ hlo) (hop ▸ hhi)
  have ht : fetchStage (advanceIF s) = .next (admitBranch i (advanceIF s)) := by simp [fetchStage, hempty, hopen, hi, hexec]
  cases ht.symm.trans h
  rfl

end predictor

/-! ### The tables over one step -/

/-- A completed step leaves the tables as its BR left them. -/
theorem Completes.predictor {s t : State} (h : Completes s t) : t.predictor = predictorAtFetch s := by
  obtain ⟨u, v, hback, hu, hfetch, rfl⟩ := h.traversed
  exact (fetch_predictor hfetch).trans (backEnd_predictor hback hu)

/-- Settles O20: the update entry by entry, and over a step the tables as BR leaves them. -/
theorem updateSaturatesOneEntry : Obligations.UpdateSaturatesOneEntry :=
  ⟨fun a target s j =>
    ⟨predUpdateAt_taken_ptAt a target s j, predUpdateAt_notTaken_ptAt a target s j, predUpdateAt_taken_btbAt a target s j,
      predUpdateAt_notTaken_btbAt a target s j, predUpdateAt_keeps_rest a target s⟩,
    fun _ _ hcompletes => hcompletes.predictor⟩

theorem predict_of_counter_gt {a : Word} {s : State} (h : 1 < (s.ptAt (predIndex a)).toNat) :
    predict a s = (true, s.btbAt (predIndex a)) := by simp [predict, h]

theorem predict_of_counter_le {a : Word} {s : State} (h : (s.ptAt (predIndex a)).toNat ≤ 1) : predict a s = (false, a + 4) := by
  simp [predict, Nat.not_lt.mpr h]

/-- Settles O19: the prediction by the counter, and the fetch of a branch, which asks the tables the step ends with. -/
theorem predictionFollowsTheCounter : Obligations.PredictionFollowsTheCounter := by
  refine ⟨fun a s => ⟨predict_of_counter_gt, predict_of_counter_le⟩, fun s t hcompletes hlt hlo hhi => ?_⟩
  obtain ⟨u, v, hback, hu, hfetch, rfl⟩ := hcompletes.traversed
  obtain ⟨hmem, -⟩ := fetch_frame hfetch
  have hpc : u.pc = pcAtFetch s := backEnd_pc hback hu
  rw [← hpc, ← runStages_progLen hback] at hlt
  rw [← hpc, State.addCycle_mem, hmem] at hlo hhi
  calc v.pc = (predict u.pc u).2 := fetch_branch_pc hfetch hlt hlo hhi
    _ = (predict u.pc v).2 := by rw [predict_congr u.pc (fetch_predictor hfetch).symm]
    _ = (predict (pcAtFetch s) v.addCycle).2 := by rw [hpc]; rfl

/-! ### A step that updates and then predicts -/

/-- With PRED_UPDATE true, BR resolves the taken branch of address 68 to address 4, where a branch of the same index is fetched. -/
def updatesThenPredicts : State :=
  { State.boot (writeCell [] 1 0x0701007F) 2 true with
    latches := Latches.empty.set .br ⟨true, 10, 1, 4, 1, 68⟩
    pt := Vector.replicate 16 1 }

/-- The premises of O19 and of the first case of O20 met at once; the counter that the update raised to 2 sends the fetch to the target
just recorded. -/
theorem updatesThenPredicts_completes :
    Completes updatesThenPredicts (Tests.after updatesThenPredicts) ∧
      (updatesThenPredicts.predUpdate = true ∧ updatesThenPredicts.latches.br.valid = true ∧
        7 ≤ updatesThenPredicts.latches.br.opcode.toNat ∧ updatesThenPredicts.latches.br.opcode.toNat ≤ 11) ∧
      ((pcAtFetch updatesThenPredicts).toNat < 4 * updatesThenPredicts.progLen ∧
        (decodeFields (readCell (Tests.after updatesThenPredicts).mem ((pcAtFetch updatesThenPredicts).toNat / 4))).opcode = 7) ∧
      predict 4 (Tests.after updatesThenPredicts) = (true, 4) ∧ (Tests.after updatesThenPredicts).pc = 4 :=
  ⟨⟨by decide, rfl, by decide⟩, by decide, by decide, by decide, by decide⟩

end Sys2Proof.Machine

/-! A stage action by opcode number. The machine dispatches on the instruction, the spec's table 40_pipeline_cycle.md R96 on the opcode;
`actionOf` is that table, and `exec` and `illegalStage` are compared with it once. Everything said about a whole cycle goes through it. -/

namespace Sys2Proof.Machine

/-! ### The table of R96 -/

/-- What the stage at the cursor does to a valid slot with the record `f` (40_pipeline_cycle.md R96), an opcode outside the set included. -/
def actionOf (f : Fields) (s : State) : State :=
  match s.cursor with
  | .ifetch =>
    if isBranch f.opcode then (enterIF f s).setPc (predict s.pc s).2
    else if isMemory f.opcode && hazard f.left s then s.addStall
    else admitFields f s
  | .id => if 12 < f.opcode.toNat then (deliver .empty s).reportIllegal else passFields f s
  | .ia => if f.opcode = 0 then passFields { f with right := f.left } s else passFields f s
  | .rr =>
    if isArith f.opcode then
      orFault (readSources f.left f.right s) s fun v => passFields { f with left := v.1, right := v.2 } s
    else if isBranch f.opcode then orFault (readTested f.dest s) s fun v => passFields { f with right := v } s
    else passFields f s
  | .add =>
    if f.opcode = 1 then passFields { f with right := f.left + f.right } s
    else if f.opcode = 2 then passFields { f with right := f.left - f.right } s
    else passFields f s
  | .mul => if f.opcode = 3 then passFields { f with right := f.left * f.right } s else passFields f s
  | .div =>
    if f.opcode = 4 then orFault (divWords f.left f.right) s fun q => passFields { f with right := q } s else passFields f s
  | .br => passFields f (if isBranch f.opcode then resolve (branchTaken f.opcode f.right) f.left s else s)
  | .mem1 => if f.opcode = 6 then orFault (memWrite f.left f.right s) s fun t => passFields f t else passFields f s
  | .mem2 =>
    if f.opcode = 5 then orFault (memRead f.right s) s fun v => passFields { f with right := v } s else passFields f s
  | .wb => if writesReg f.opcode then commitResult f.dest f.right s else s.addCommit

/-- Every instruction's meaning is the row of its opcode number. -/
theorem exec_eq_actionOf (i : Instr) (s : State) : exec i s = .next (actionOf i.fields s) := by
  cases hc : s.cursor
  all_goals
    cases i
    all_goals
      simp only [exec, execSet, execAdd, execSub, execMul, execDiv, execLd, execSt, execBez, execBgez, execBlez, execBgtz, execBltz,
        execRet, actionOf, hc]
      rfl

/-- A record with an opcode above 12 is in no class of R96 but that of ID. -/
theorem illegalStage_eq_actionOf {f : Fields} (h : 12 < f.opcode.toNat) (s : State) : illegalStage f s = actionOf f s := by
  have hne : ∀ n : Byte, n.toNat ≤ 12 → f.opcode ≠ n := fun n hn e => by subst e; omega
  have hbranch : isBranch f.opcode = false := decide_eq_false (by omega)
  have harith : isArith f.opcode = false := decide_eq_false (by omega)
  have hmemory : isMemory f.opcode = false := decide_eq_false (by omega)
  have hwrites : writesReg f.opcode = false := decide_eq_false (by omega)
  cases hc : s.cursor <;>
    simp [illegalStage, actionOf, hc, h, hbranch, harith, hmemory, hwrites, hne]

end Sys2Proof.Machine

namespace Sys2Proof.Machine

/-! ### Division -/

/-- The quotient as a word, the overflowing case included, is core Lean's signed division (43_set_arith.md R143). -/
theorem ofInt_tdiv_eq_sdiv (a b : Word) : BitVec.ofInt 32 (a.toInt.tdiv b.toInt) = a.sdiv b := by
  rw [← BitVec.toInt_inj, BitVec.toInt_ofInt, BitVec.toInt_sdiv]

theorem divWords_zero (a : Word) : divWords a 0 = .error .divZero := rfl

theorem divWords_of_ne_zero (a : Word) {b : Word} (h : b ≠ 0) : divWords a b = .ok (a.sdiv b) := by
  rw [divWords, if_neg h]
  split
  next hwrap => obtain ⟨rfl, rfl⟩ := hwrap; rfl
  next => rw [ofInt_tdiv_eq_sdiv]

/-! ### One stage, clocked -/

/-- The slot that a stage hands on when nothing faults, from the registers and the memory it sees. -/
def slotAfter (st : Stage) (s : State) : Slot :=
  match st with
  | .id => actID (s.slotAt .id)
  | .ia => actIA (s.slotAt .ia)
  | .rr => actRR s.regs (s.slotAt .rr)
  | .add => actAdd (s.slotAt .add)
  | .mul => actMul (s.slotAt .mul)
  | .div => actDiv (s.slotAt .div)
  | .mem2 => actMem2 s.mem (s.slotAt .mem2)
  | .ifetch | .br | .mem1 | .wb => s.slotAt st

/-- The commit of WB's slot (40_pipeline_cycle.md R98). -/
def clockedCommit (s : State) : State :=
  { s with regs := clockedRegs s, commits := if (s.slotAt .wb).valid then s.commits + 1 else s.commits }

/-- Whether ID drops the slot (46_ret_illegal.md R176). -/
def Slot.dropped (sl : Slot) : Bool := sl.valid && decide (12 < sl.opcode.toNat)

/-- The report of ID's slot (46_ret_illegal.md R176). -/
def clockedReport (s : State) : State :=
  { s with
    illegal := s.latches.id.dropped || s.illegal
    illegalCount := if s.latches.id.dropped then s.illegalCount + 1 else s.illegalCount }

/-- What a stage writes beside the next latch when nothing faults. -/
def effectOf (st : Stage) (s : State) : State :=
  match st with
  | .id => clockedReport s
  | .br => clockedBranch s
  | .mem1 => s.setMem (clockedMem s)
  | .wb => clockedCommit s
  | .ifetch | .ia | .rr | .add | .mul | .div | .mem2 => s

/-- A stage of the traversal when nothing faults: its effect, and the transfer. -/
def clockStage (st : Stage) (s : State) : State := deliver (slotAfter st s) ((effectOf st s).setCursor st)

section bubble
variable {sl : Slot} (h : sl.valid = false)
include h

theorem actID_of_bubble : actID sl = sl := by simp [actID, h]
theorem actIA_of_bubble : actIA sl = sl := by simp [actIA, h]
theorem actRR_of_bubble (x : Vector Word 16) : actRR x sl = sl := by simp [actRR, h]
theorem actAdd_of_bubble : actAdd sl = sl := by simp [actAdd, h]
theorem actMul_of_bubble : actMul sl = sl := by simp [actMul, h]
theorem actDiv_of_bubble : actDiv sl = sl := by simp [actDiv, h]
theorem actMem2_of_bubble (m : Memory) : actMem2 m sl = sl := by simp [actMem2, h]

end bubble

/-! ### Fault conditions -/

section conditions
variable {sl : Slot}

theorem faultIn_wb_eq_none : faultIn .wb sl = none ↔ (sl.valid = true → writesReg sl.opcode = true → sl.dest.toNat < 16) := by
  simp [faultIn, Nat.lt_succ_iff]

theorem faultIn_mem2_eq_none : faultIn .mem2 sl = none ↔ (sl.valid = true → sl.opcode = 5 → sl.right.toNat < 65536) := by
  simp [faultIn, Nat.lt_succ_iff]

theorem faultIn_mem1_eq_none : faultIn .mem1 sl = none ↔ (sl.valid = true → sl.opcode = 6 → sl.left.toNat < 65536) := by
  simp [faultIn, Nat.lt_succ_iff]

theorem faultIn_div_eq_none : faultIn .div sl = none ↔ (sl.valid = true → sl.opcode = 4 → sl.right ≠ 0) := by simp [faultIn]

/-- No opcode is both arithmetic and a branch. -/
theorem isBranch_of_isArith {op : Byte} (h : isArith op = true) : isBranch op = false := by
  obtain ⟨-, hhi⟩ := of_decide_eq_true h
  exact decide_eq_false (by omega)

theorem faultIn_rr_eq_none : faultIn .rr sl = none ↔ (sl.valid = true →
    (isArith sl.opcode = true → sl.left.toNat < 16 ∧ sl.right.toNat < 16) ∧ (isBranch sl.opcode = true → sl.dest.toNat < 16)) := by
  simp only [faultIn, ← toNat_lt_16_iff]
  cases harith : isArith sl.opcode with
  | true =>
    simp only [isBranch_of_isArith harith]
    by_cases hsources : sl.left.toNat < 16 ∧ sl.right.toNat < 16 <;> simp [hsources]
  | false => simp [Nat.lt_succ_iff]

theorem faultIn_wb_eq_some {c : FaultCause} : faultIn .wb sl = some c ↔
    sl.valid = true ∧ writesReg sl.opcode = true ∧ 16 ≤ sl.dest.toNat ∧ .regIndex = c := by
  simp [faultIn, and_assoc, Nat.succ_le_iff]

theorem faultIn_mem2_eq_some {c : FaultCause} : faultIn .mem2 sl = some c ↔
    sl.valid = true ∧ sl.opcode = 5 ∧ 65536 ≤ sl.right.toNat ∧ .memIndex = c := by
  simp [faultIn, and_assoc, Nat.succ_le_iff]

theorem faultIn_mem1_eq_some {c : FaultCause} : faultIn .mem1 sl = some c ↔
    sl.valid = true ∧ sl.opcode = 6 ∧ 65536 ≤ sl.left.toNat ∧ .memIndex = c := by
  simp [faultIn, and_assoc, Nat.succ_le_iff]

theorem faultIn_div_eq_some {c : FaultCause} : faultIn .div sl = some c ↔
    sl.valid = true ∧ sl.opcode = 4 ∧ sl.right = 0 ∧ .divZero = c := by simp [faultIn, and_assoc]

theorem faultIn_rr_eq_some {c : FaultCause} : faultIn .rr sl = some c ↔ sl.valid = true ∧ .regIndex = c ∧
    (isArith sl.opcode = true ∧ (16 ≤ sl.left.toNat ∨ 16 ≤ sl.right.toNat) ∨ isBranch sl.opcode = true ∧ 16 ≤ sl.dest.toNat) := by
  simp only [faultIn, ← toNat_lt_16_iff]
  cases harith : isArith sl.opcode with
  | true =>
    have hbranch := isBranch_of_isArith harith
    by_cases hsources : sl.left.toNat < 16 ∧ sl.right.toNat < 16
    · simp [hbranch, hsources]
    · have hout : 16 ≤ sl.left.toNat ∨ 16 ≤ sl.right.toNat := by omega
      simp [hbranch, hsources, hout]
  | false => simp [Nat.succ_le_iff, and_comm, and_left_comm]

end conditions

section stage
variable {s : State} {st : Stage}

/-- A valid slot's stage action, whether its opcode names an instruction or not. -/
theorem runStage_of_valid (h : (s.slotAt st).valid = true) :
    runStage st s = .next (actionOf (s.slotAt st).fields (s.setCursor st)) := by
  cases hi : (s.slotAt st).fields.instr? with
  | some i => rw [runStage_valid h hi, exec_eq_actionOf, fields_of_instr hi]
  | none => rw [runStage_illegal h hi, illegalStage_eq_actionOf (opcode_gt_of_illegal hi)]

theorem slotAfter_of_bubble (h : (s.slotAt st).valid = false) : slotAfter st s = s.slotAt st := by
  cases st with
  | id => exact actID_of_bubble h
  | ia => exact actIA_of_bubble h
  | rr => exact actRR_of_bubble h _
  | add => exact actAdd_of_bubble h
  | mul => exact actMul_of_bubble h
  | div => exact actDiv_of_bubble h
  | mem2 => exact actMem2_of_bubble h _
  | ifetch | br | mem1 | wb => rfl

theorem effectOf_of_bubble (h : (s.slotAt st).valid = false) : effectOf st s = s := by
  cases st with
  | id =>
    have hv : s.latches.id.valid = false := h
    simp [effectOf, clockedReport, Slot.dropped, hv]
  | br =>
    have hv : s.latches.br.valid = false := h
    simp [effectOf, clockedBranch, hv]
  | mem1 =>
    have hv : s.latches.mem1.valid = false := h
    simp [effectOf, clockedMem, State.setMem, hv]
  | wb =>
    have hv : s.latches.wb.valid = false := h
    simp [effectOf, clockedCommit, clockedRegs, h, hv]
  | ifetch | ia | rr | add | mul | div | mem2 => rfl

/-- A bubble has no effect and is handed on as it is (40_pipeline_cycle.md R93). -/
theorem clockStage_of_bubble (h : (s.slotAt st).valid = false) : clockStage st s = deliver (s.slotAt st) (s.setCursor st) := by
  rw [clockStage, slotAfter_of_bubble h, effectOf_of_bubble h]

end stage

/-! ### A valid slot's action, clocked -/

theorem ofFields_fields {sl : Slot} (h : sl.valid = true) : .ofFields sl.fields sl.fpc = sl := by
  cases sl; cases h; rfl

section record
variable (f : Fields) (p : Word)

theorem actID_ofFields : actID (.ofFields f p) = if 12 < f.opcode.toNat then .empty else .ofFields f p :=
  if_congr decide_eq_true_iff rfl rfl

theorem actIA_ofFields : actIA (.ofFields f p) =
    if f.opcode = 0 then .ofFields { f with right := f.left } p else .ofFields f p :=
  if_congr decide_eq_true_iff rfl rfl

theorem actRR_ofFields (x : Vector Word 16) : actRR x (.ofFields f p) =
    if isArith f.opcode then .ofFields { f with left := regAt x f.left.toNat, right := regAt x f.right.toNat } p
    else if isBranch f.opcode then .ofFields { f with right := regAt x f.dest.toNat } p
    else .ofFields f p := rfl

theorem actAdd_ofFields : actAdd (.ofFields f p) =
    if f.opcode = 1 then .ofFields { f with right := f.left + f.right } p
    else if f.opcode = 2 then .ofFields { f with right := f.left - f.right } p
    else .ofFields f p :=
  if_congr decide_eq_true_iff rfl (if_congr decide_eq_true_iff rfl rfl)

theorem actMul_ofFields : actMul (.ofFields f p) =
    if f.opcode = 3 then .ofFields { f with right := f.left * f.right } p else .ofFields f p :=
  if_congr decide_eq_true_iff rfl rfl

theorem actDiv_ofFields : actDiv (.ofFields f p) =
    if f.opcode = 4 then .ofFields { f with right := f.left.sdiv f.right } p else .ofFields f p :=
  if_congr decide_eq_true_iff rfl rfl

theorem actMem2_ofFields (m : Memory) : actMem2 m (.ofFields f p) =
    if f.opcode = 5 then .ofFields { f with right := readCell m f.right.toNat } p else .ofFields f p :=
  if_congr decide_eq_true_iff rfl rfl

end record

theorem regAt_of_lt (x : Vector Word 16) {i : Nat} (h : i < 16) : regAt x i = x[i] := dif_pos h

section action
variable {s : State} {st : Stage} {f : Fields} {p : Word}

/-- A record moved on from the stage that holds its slot. -/
theorem passFields_setCursor (hsl : s.slotAt st = .ofFields f p) (g : Fields) :
    passFields g (s.setCursor st) = deliver (.ofFields g p) (s.setCursor st) := by
  have hfpc : ((s.setCursor st).slotAt (s.setCursor st).cursor).fpc = p := congrArg Slot.fpc hsl
  rw [passFields, hfpc]

theorem deliver_ite (c : Prop) [Decidable c] (a b : Slot) (s : State) :
    deliver (if c then a else b) s = if c then deliver a s else deliver b s := apply_ite (deliver · s) c a b

theorem actionOf_id (hsl : s.slotAt .id = .ofFields f p) : actionOf f (s.setCursor .id) = clockStage .id s := by
  have hlatch : s.latches.id = .ofFields f p := hsl
  have hdrops : s.latches.id.dropped = decide (12 < f.opcode.toNat) := by rw [hlatch]; rfl
  rw [clockStage, slotAfter, effectOf, clockedReport, hdrops, hsl, actID_ofFields]
  by_cases hop : 12 < f.opcode.toNat
  · simp [actionOf, hop, deliver, Stage.next?]; rfl
  · simp [actionOf, hop, passFields_setCursor hsl]

theorem actionOf_ia (hsl : s.slotAt .ia = .ofFields f p) : actionOf f (s.setCursor .ia) = clockStage .ia s := by
  simp only [actionOf, State.setCursor_cursor, passFields_setCursor hsl, clockStage, slotAfter, effectOf, hsl, actIA_ofFields,
    deliver_ite]

theorem actionOf_add (hsl : s.slotAt .add = .ofFields f p) : actionOf f (s.setCursor .add) = clockStage .add s := by
  simp only [actionOf, State.setCursor_cursor, passFields_setCursor hsl, clockStage, slotAfter, effectOf, hsl, actAdd_ofFields,
    deliver_ite]

theorem actionOf_mul (hsl : s.slotAt .mul = .ofFields f p) : actionOf f (s.setCursor .mul) = clockStage .mul s := by
  simp only [actionOf, State.setCursor_cursor, passFields_setCursor hsl, clockStage, slotAfter, effectOf, hsl, actMul_ofFields,
    deliver_ite]

theorem actionOf_div (hsl : s.slotAt .div = .ofFields f p) (hdivisor : f.opcode = 4 → f.right ≠ 0) :
    actionOf f (s.setCursor .div) = clockStage .div s := by
  simp only [actionOf, State.setCursor_cursor, passFields_setCursor hsl, clockStage, slotAfter, effectOf, hsl, actDiv_ofFields,
    deliver_ite]
  split
  next hop => rw [divWords_of_ne_zero _ (hdivisor hop), orFault_ok]
  next => rfl

theorem actionOf_rr (hsl : s.slotAt .rr = .ofFields f p)
    (harith : isArith f.opcode = true → f.left.toNat < 16 ∧ f.right.toNat < 16) (hbranch : isBranch f.opcode = true → f.dest.toNat < 16) :
    actionOf f (s.setCursor .rr) = clockStage .rr s := by
  simp only [actionOf, State.setCursor_cursor, passFields_setCursor hsl, clockStage, slotAfter, effectOf, hsl, actRR_ofFields,
    deliver_ite]
  split
  next hop =>
    obtain ⟨hleft, hright⟩ := harith hop
    rw [readSources_of_lt _ hleft hright, orFault_ok, regAt_of_lt _ hleft, regAt_of_lt _ hright, State.setCursor_regs]
  next =>
    split
    next hop =>
      have hdest : (zext8 f.dest).toNat < 16 := by simpa using hbranch hop
      simp only [readTested, readReg_of_lt _ hdest, orFault_ok, regAt_of_lt _ (hbranch hop), zext8_toNat, State.setCursor_regs]
    next => rfl

theorem actionOf_mem2 (hsl : s.slotAt .mem2 = .ofFields f p) (hcell : f.opcode = 5 → f.right.toNat < 65536) :
    actionOf f (s.setCursor .mem2) = clockStage .mem2 s := by
  simp only [actionOf, State.setCursor_cursor, passFields_setCursor hsl, clockStage, slotAfter, effectOf, hsl, actMem2_ofFields,
    deliver_ite]
  split
  next hop => rw [memRead_of_lt _ (hcell hop), orFault_ok, State.setCursor_mem]
  next => rfl

theorem actionOf_mem1 (hsl : s.slotAt .mem1 = .ofFields f p) (hcell : f.opcode = 6 → f.left.toNat < 65536) :
    actionOf f (s.setCursor .mem1) = clockStage .mem1 s := by
  have hmem : clockedMem s = if f.opcode = 6 then writeCell s.mem f.left.toNat f.right else s.mem := by
    have hsl' : s.latches.mem1 = .ofFields f p := hsl
    rw [clockedMem, hsl']
    exact if_congr decide_eq_true_iff rfl rfl
  simp only [actionOf, State.setCursor_cursor, passFields_setCursor hsl, clockStage, slotAfter, effectOf, hsl, hmem]
  split
  next hop =>
    rw [memWrite_of_lt _ _ (hcell hop), orFault_ok]
    exact passFields_setCursor (s := s.setMem (writeCell s.mem f.left.toNat f.right)) hsl f
  next => rfl

theorem actionOf_wb (hsl : s.slotAt .wb = .ofFields f p) (hdest : writesReg f.opcode = true → f.dest.toNat < 16) :
    actionOf f (s.setCursor .wb) = clockStage .wb s := by
  have hsl' : s.latches.wb = .ofFields f p := hsl
  simp only [actionOf, State.setCursor_cursor, clockStage, slotAfter, effectOf, clockedCommit, clockedRegs, hsl, hsl']
  split
  next hop =>
    rw [commitResult_of_lt _ _ (hdest hop)]
    simp [Slot.ofFields, hop, hdest hop]; rfl
  next hop => simp [Slot.ofFields, hop]; rfl

theorem isBranch_iff (op : Byte) : isBranch op = true ↔ 7 ≤ op.toNat ∧ op.toNat ≤ 11 := decide_eq_true_iff

/-- Only a branch opcode has a condition that can hold. -/
theorem isBranch_of_branchTaken {op : Byte} {v : Word} (h : branchTaken op v = true) : isBranch op = true := by
  rw [isBranch_iff]
  unfold branchTaken at h
  split at h <;> simp_all

/-- A branch in BR writes `pc` and the tables, and they are what the fetch of the same cycle sees. -/
theorem clockedBranch_eq (s : State) :
    clockedBranch s = { s with pc := pcAtFetch s, pt := (predictorAtFetch s).1, btb := (predictorAtFetch s).2 } := by
  have hslot : s.slotAt .br = s.latches.br := rfl
  simp only [clockedBranch, pcAtFetch, predictorAtFetch, hslot, ← isBranch_iff]
  by_cases hop : s.latches.br.valid = true ∧ isBranch s.latches.br.opcode = true
  · obtain ⟨hv, hbranch⟩ := hop
    cases branchTaken s.latches.br.opcode s.latches.br.right
    all_goals
      by_cases hu : s.predUpdate = true
      · simp [hv, hbranch, if_pos hu]; rfl
      · simp [hv, hbranch, if_neg hu]; rfl
  · have hidle : (s.latches.br.valid && branchTaken s.latches.br.opcode s.latches.br.right) = false := by
      rw [Bool.and_eq_false_imp]
      exact fun hv => Bool.eq_false_iff.mpr fun hc => hop ⟨hv, isBranch_of_branchTaken hc⟩
    rw [hidle, if_neg (by simpa using hop), if_neg Bool.false_ne_true, if_neg (fun h => hop h.2)]
    rfl

@[simp] theorem clockedBranch_latches (s : State) : (clockedBranch s).latches = s.latches := by rw [clockedBranch_eq]

/-- The BR action of a branch, its slot taken from the latch (45_branches.md R160). -/
theorem resolve_setCursor (hsl : s.slotAt .br = .ofFields f p) (hop : isBranch f.opcode = true) :
    resolve (branchTaken f.opcode f.right) f.left (s.setCursor .br) = (clockedBranch s).setCursor .br := by
  have hlatch : s.latches.br = .ofFields f p := hsl
  have hfpc : ((s.setCursor .br).slotAt (s.setCursor .br).cursor).fpc = p := congrArg Slot.fpc hsl
  have hvalid : ((Slot.ofFields f p).valid && isBranch (Slot.ofFields f p).opcode) = true := hop
  simp only [resolve, clockedBranch, hlatch, hfpc, hvalid, if_true]
  cases hc : branchTaken f.opcode f.right <;> cases hu : s.predUpdate <;> simp [Slot.ofFields, hc, hu] <;> rfl

theorem actionOf_br (hsl : s.slotAt .br = .ofFields f p) : actionOf f (s.setCursor .br) = clockStage .br s := by
  have hlatch : s.latches.br = .ofFields f p := hsl
  have hkeeps : (clockedBranch s).slotAt .br = .ofFields f p := by rw [State.slotAt, clockedBranch_latches]; exact hsl
  have hstage : clockStage .br s = passFields f ((clockedBranch s).setCursor .br) := by
    rw [passFields_setCursor hkeeps, clockStage, slotAfter, hsl, effectOf]
  rw [hstage]
  simp only [actionOf, State.setCursor_cursor]
  cases hop : isBranch f.opcode with
  | true => rw [if_pos rfl, resolve_setCursor hsl hop]
  | false => simp [clockedBranch, hlatch, Slot.ofFields, hop]

/-- A valid slot in which the stage meets no fault condition (60_exceptions.md R181) is clocked. -/
theorem actionOf_clocks (hst : st ≠ .ifetch) (hsl : s.slotAt st = .ofFields f p) (hf : faultIn st (.ofFields f p) = none) :
    actionOf f (s.setCursor st) = clockStage st s := by
  cases st with
  | ifetch => exact absurd rfl hst
  | id => exact actionOf_id hsl
  | ia => exact actionOf_ia hsl
  | rr => exact actionOf_rr hsl (faultIn_rr_eq_none.mp hf rfl).1 (faultIn_rr_eq_none.mp hf rfl).2
  | add => exact actionOf_add hsl
  | mul => exact actionOf_mul hsl
  | div => exact actionOf_div hsl (faultIn_div_eq_none.mp hf rfl)
  | br => exact actionOf_br hsl
  | mem1 => exact actionOf_mem1 hsl (faultIn_mem1_eq_none.mp hf rfl)
  | mem2 => exact actionOf_mem2 hsl (faultIn_mem2_eq_none.mp hf rfl)
  | wb => exact actionOf_wb hsl (faultIn_wb_eq_none.mp hf rfl)

/-- A fault condition raises its fault. -/
theorem actionOf_faults {c : FaultCause} (hf : faultIn st (.ofFields f p) = some c) :
    actionOf f (s.setCursor st) = raiseFault c (s.setCursor st) := by
  cases st with
  | ifetch | id | ia | add | mul | br => cases hf
  | rr =>
    simp only [actionOf, State.setCursor_cursor]
    obtain ⟨-, rfl, ⟨hop, hindex⟩ | ⟨hop, hindex⟩⟩ := faultIn_rr_eq_some.mp hf
    · have harith : isArith f.opcode = true := hop
      rw [if_pos harith, readSources_of_ge (a := f.left) (b := f.right) _ hindex, orFault_error]
    · have hbranch : isBranch f.opcode = true := hop
      have harith : isArith f.opcode ≠ true := fun h => by simp [isBranch_of_isArith h] at hbranch
      have hdest : 16 ≤ (zext8 f.dest).toNat := (zext8_toNat f.dest).symm ▸ hindex
      rw [if_neg harith, if_pos hbranch, readTested, readReg_of_ge _ hdest, orFault_error]
  | div =>
    obtain ⟨-, hop, hzero, rfl⟩ := faultIn_div_eq_some.mp hf
    exact (if_pos hop).trans (by rw [show f.right = 0 from hzero, divWords_zero, orFault_error])
  | mem1 =>
    obtain ⟨-, hop, hindex, rfl⟩ := faultIn_mem1_eq_some.mp hf
    exact (if_pos hop).trans (by rw [memWrite_of_ge (a := f.left) _ _ hindex, orFault_error])
  | mem2 =>
    obtain ⟨-, hop, hindex, rfl⟩ := faultIn_mem2_eq_some.mp hf
    exact (if_pos hop).trans (by rw [memRead_of_ge (a := f.right) _ hindex, orFault_error])
  | wb =>
    obtain ⟨-, hop, hindex, rfl⟩ := faultIn_wb_eq_some.mp hf
    exact (if_pos hop).trans (commitResult_of_ge _ _ hindex)

end action

end Sys2Proof.Machine

namespace Sys2Proof.Machine

/-! ### One stage of the traversal -/

section runStage
variable {s : State} {st : Stage}

theorem faultIn_of_bubble {sl : Slot} (h : sl.valid = false) : faultIn st sl = none := by
  cases st <;> simp [faultIn, h]

theorem runStage_clocks (hst : st ≠ .ifetch) (hf : faultIn st (s.slotAt st) = none) : runStage st s = .next (clockStage st s) := by
  cases hv : (s.slotAt st).valid with
  | false => rw [runStage_bubble hv, clockStage_of_bubble hv]
  | true => rw [runStage_of_valid hv, actionOf_clocks hst (ofFields_fields hv).symm (by rwa [ofFields_fields hv])]

theorem runStage_faults {c : FaultCause} (hf : faultIn st (s.slotAt st) = some c) :
    runStage st s = .next (raiseFault c (s.setCursor st)) := by
  cases hv : (s.slotAt st).valid with
  | false => simp [faultIn_of_bubble hv] at hf
  | true => rw [runStage_of_valid hv, actionOf_faults (p := (s.slotAt st).fpc) (by rwa [ofFields_fields hv])]

theorem deliver_fault (sl : Slot) (s : State) : (deliver sl s).fault = s.fault := by
  unfold deliver
  split <;> rfl

theorem clockStage_fault (st : Stage) (s : State) : (clockStage st s).fault = s.fault := by
  rw [clockStage, deliver_fault]
  cases st with
  | br => rw [effectOf, clockedBranch_eq]; rfl
  | _ => rfl

end runStage

/-! ### Several stages -/

section runStages
variable {s : State} {order : List Stage}

/-- Stages one after the other in which nothing faults. -/
def clockStages (order : List Stage) (s : State) : State := order.foldl (fun t st => clockStage st t) s

theorem clockStages_fault (order : List Stage) (s : State) : (clockStages order s).fault = s.fault := by
  induction order generalizing s with
  | nil => rfl
  | cons st rest ih => exact (ih _).trans (clockStage_fault st s)

/-- No stage fills the latch of a stage that comes after it: each acts on the slot of the start of the cycle. -/
abbrev Unfed (order : List Stage) : Prop := (∀ st ∈ order, st ≠ .ifetch) ∧ order.Pairwise fun a b => a.next? ≠ some b

/-- The stages after one that did not fault meet the same fault conditions as before it. -/
theorem clockStage_slotAt {st n : Stage} (hst : st ≠ .ifetch) (hf : faultIn st (s.slotAt st) = none) (hn : st.next? ≠ some n) :
    (clockStage st s).slotAt n = s.slotAt n := runStage_slotAt hst hn (runStage_clocks hst hf)

theorem runStages_clocks (horder : Unfed order) (hs : s.halted = false) (hf : ∀ st ∈ order, faultIn st (s.slotAt st) = none) :
    runStages order s = .next (clockStages order s) := by
  induction order generalizing s with
  | nil => rfl
  | cons st rest ih =>
    obtain ⟨hif, hfed⟩ := horder
    obtain ⟨hfirst, hrest⟩ := List.pairwise_cons.mp hfed
    obtain ⟨hst, hif⟩ := List.forall_mem_cons.mp hif
    obtain ⟨hf, hfs⟩ := List.forall_mem_cons.mp hf
    have hhalted : (clockStage st s).halted = false := by rw [State.halted, clockStage_fault]; exact hs
    rw [runStages, runStage_clocks hst hf, thenUnlessHalted_next _ hhalted]
    exact ih ⟨hif, hrest⟩ hhalted fun n hn => by rw [clockStage_slotAt hst hf (hfirst n hn)]; exact hfs n hn

theorem runStages_faults {t : State} {f : FaultRecord} (horder : Unfed order) (ht : t.halted = false)
    (hslots : ∀ st ∈ order, t.slotAt st = s.slotAt st) (hf : order.findSome? (faultRecordIn · s) = some f) :
    ∃ u, runStages order t = .next u ∧ u.halted = true ∧ u.fault = f := by
  induction order generalizing t with
  | nil => cases hf
  | cons st rest ih =>
    obtain ⟨hif, hfed⟩ := horder
    obtain ⟨hfirst, hrest⟩ := List.pairwise_cons.mp hfed
    obtain ⟨hst, hif⟩ := List.forall_mem_cons.mp hif
    obtain ⟨hslot, hslots⟩ := List.forall_mem_cons.mp hslots
    rw [List.findSome?_cons, faultRecordIn, ← hslot] at hf
    cases hfault : faultIn st (t.slotAt st) with
    | some c =>
      rw [hfault] at hf
      refine ⟨raiseFault c (t.setCursor st), ?_, raiseFault_halted c _, Option.some.inj hf⟩
      rw [runStages, runStage_faults hfault, thenUnlessHalted_halted _ (raiseFault_halted c _)]
    | none =>
      rw [hfault] at hf
      have hhalted : (clockStage st t).halted = false := by rw [State.halted, clockStage_fault]; exact ht
      rw [runStages, runStage_clocks hst hfault, thenUnlessHalted_next _ hhalted]
      exact ih ⟨hif, hrest⟩ hhalted (fun n hn => (clockStage_slotAt hst hfault (hfirst n hn)).trans (hslots n hn)) hf

end runStages

/-! ### The ten stages of the back end -/

theorem unfed_backEndOrder : Unfed backEndOrder := by decide

/-- BR and the stages without a fault condition add nothing to the order of R182. -/
theorem faultOf_eq (s : State) : faultOf s = backEndOrder.findSome? (faultRecordIn · s) := by
  simp [faultOf, backEndOrder, List.findSome?_cons, faultRecordIn, faultIn]

theorem faultOf_eq_none_iff (s : State) : faultOf s = none ↔ ∀ st, faultIn st (s.slotAt st) = none := by
  simp only [faultOf_eq, List.findSome?_eq_none_iff, faultRecordIn, Option.map_eq_none_iff]
  refine ⟨fun h st => ?_, fun h st _ => h st⟩
  cases st with
  | ifetch => rfl
  | _ => exact h _ (by decide)

/-- The tables that BR leaves depend on its slot, PRED_UPDATE and the tables before. -/
theorem predictorAtFetch_congr {s t : State} (hslot : t.slotAt .br = s.slotAt .br) (hupdate : t.predUpdate = s.predUpdate)
    (htables : t.predictor = s.predictor) : predictorAtFetch t = predictorAtFetch s := by
  simp only [predictorAtFetch, hslot, hupdate, htables, predUpdateAt_predictor_congr _ _ _ htables]

section clockStage
variable (s : State)

theorem clockStage_wb : clockStage .wb s =
    { s with
      regs := clockedRegs s
      commits := if s.latches.wb.valid then s.commits + 1 else s.commits
      cursor := .wb } := rfl

theorem clockStage_mem2 : clockStage .mem2 s =
    { s with latches := { s.latches with wb := actMem2 s.mem s.latches.mem2 }, cursor := .mem2 } := rfl

theorem clockStage_mem1 : clockStage .mem1 s =
    { s with mem := clockedMem s, latches := { s.latches with mem2 := s.latches.mem1 }, cursor := .mem1 } := rfl

theorem clockStage_br : clockStage .br s =
    { s with
      pc := pcAtFetch s
      pt := (predictorAtFetch s).1
      btb := (predictorAtFetch s).2
      latches := { s.latches with mem1 := s.latches.br }
      cursor := .br } := by
  rw [clockStage, effectOf, clockedBranch_eq]
  rfl

theorem clockStage_div : clockStage .div s =
    { s with latches := { s.latches with br := actDiv s.latches.div }, cursor := .div } := rfl

theorem clockStage_mul : clockStage .mul s =
    { s with latches := { s.latches with div := actMul s.latches.mul }, cursor := .mul } := rfl

theorem clockStage_add : clockStage .add s =
    { s with latches := { s.latches with mul := actAdd s.latches.add }, cursor := .add } := rfl

theorem clockStage_rr : clockStage .rr s =
    { s with latches := { s.latches with add := actRR s.regs s.latches.rr }, cursor := .rr } := rfl

theorem clockStage_ia : clockStage .ia s =
    { s with latches := { s.latches with rr := actIA s.latches.ia }, cursor := .ia } := rfl

theorem clockStage_id : clockStage .id s =
    { s with
      latches := { s.latches with ia := actID s.latches.id }
      illegal := s.latches.id.dropped || s.illegal
      illegalCount := if s.latches.id.dropped then s.illegalCount + 1 else s.illegalCount
      cursor := .id } := rfl

theorem advanceIF_eq : advanceIF s =
    { s with latches := { s.latches with id := s.latches.ifetch, ifetch := .empty }, cursor := .ifetch } := rfl

theorem clockStages_beforeBR : clockStages [.wb, .mem2, .mem1] s =
    { s with
      regs := clockedRegs s
      mem := clockedMem s
      latches := { s.latches with wb := actMem2 s.mem s.latches.mem2, mem2 := s.latches.mem1 }
      commits := if s.latches.wb.valid then s.commits + 1 else s.commits
      cursor := .mem1 } := rfl

theorem clockStages_afterBR : clockStages [.div, .mul, .add, .rr, .ia, .id] s =
    { s with
      latches :=
        { s.latches with
          ia := actID s.latches.id
          rr := actIA s.latches.ia
          add := actRR s.regs s.latches.rr
          mul := actAdd s.latches.add
          div := actMul s.latches.mul
          br := actDiv s.latches.div }
      illegal := s.latches.id.dropped || s.illegal
      illegalCount := if s.latches.id.dropped then s.illegalCount + 1 else s.illegalCount
      cursor := .id } := by
  simp only [clockStages, List.foldl, clockStage_div, clockStage_mul, clockStage_add, clockStage_rr, clockStage_ia, clockStage_id]

/-- The ten stages one after the other, then the transfer of line 11, leave what the eleven registers clocked at once hold
(40_pipeline_cycle.md R94). -/
theorem clockStages_backEnd : (advanceIF (clockStages backEndOrder s)).addCycle = clockedBackEnd s := by
  have hsplit : clockStages backEndOrder s =
      clockStages [.div, .mul, .add, .rr, .ia, .id] (clockStage .br (clockStages [.wb, .mem2, .mem1] s)) := by
    simp only [clockStages, backEndOrder, List.foldl]
  have hpc : pcAtFetch (clockStages [.wb, .mem2, .mem1] s) = pcAtFetch s := rfl
  have htables : predictorAtFetch (clockStages [.wb, .mem2, .mem1] s) = predictorAtFetch s :=
    predictorAtFetch_congr rfl rfl rfl
  rw [hsplit, clockStage_br, hpc, htables, clockStages_beforeBR, clockStages_afterBR]
  simp only [clockedBackEnd, clockedBranch_eq, advanceIF_eq, State.addCycle]
  rfl

end clockStage

end Sys2Proof.Machine

namespace Sys2Proof.Machine

/-! ### The fetch of a cycle -/

section fetch
variable {s : State}

theorem actionOf_ifetch (f : Fields) (hc : s.cursor = .ifetch) : actionOf f s =
    if isBranch f.opcode then (enterIF f s).setPc (predict s.pc s).2
    else if isMemory f.opcode && hazard f.left s then s.addStall
    else admitFields f s := by simp only [actionOf, hc]

/-- A fetch with `L.IF` EMPTY is, below the sentinel, the action of R96 on the record of the word at `pc`. -/
theorem fetchStage_eq (hempty : (s.slotAt .ifetch).valid = false) :
    fetchStage s = .next (if s.fetchExhausted then s else actionOf (decodeFields (fetchWord s)) s) := by
  simp only [fetchStage, hempty, Bool.false_eq_true, if_false]
  cases hopen : s.fetchExhausted with
  | true => rfl
  | false =>
    cases hw : decode (fetchWord s) with
    | ok i => simp [exec_eq_actionOf, fields_of_decode hw]
    | error r =>
      have hop : 12 < (decodeFields (fetchWord s)).opcode.toNat := by
        by_contra hle
        obtain ⟨i, hi⟩ := decode_of_opcode_le (Nat.not_lt.mp hle)
        cases hi.symm.trans hw
      simp [illegalStage_eq_actionOf hop]

theorem fetchStage_clocks (hc : s.cursor = .ifetch) (hempty : (s.slotAt .ifetch).valid = false) :
    fetchStage s = .next (clockedFetch s) := by
  rw [fetchStage_eq hempty, actionOf_ifetch _ hc, clockedFetch, hazard, ← Bool.and_assoc]
  exact congrArg _ (if_congr decide_eq_true_iff rfl rfl)

/-! What it does, field by field. -/

/-- The model's stall signal by opcode number (41_fetch_hazard.md R117, R120). -/
theorem fetchStalls_eq (s : State) : fetchStalls s = (!s.fetchExhausted &&
    (isMemory (decodeFields (fetchWord s)).opcode && hazard (decodeFields (fetchWord s)).left s)) := by
  rw [fetchStalls]
  cases hw : decode (fetchWord s) with
  | ok i => rw [← fields_of_decode hw]; cases i <;> rfl
  | error r =>
    have hop : 12 < (decodeFields (fetchWord s)).opcode.toNat := by
      by_contra hle
      obtain ⟨i, hi⟩ := decode_of_opcode_le (Nat.not_lt.mp hle)
      cases hi.symm.trans hw
    have hmemory : isMemory (decodeFields (fetchWord s)).opcode = false := decide_eq_false (by omega)
    simp [hmemory]

/-- Whether the fetch admits the word at `pc` (41_fetch_hazard.md R110). -/
def fetchAdmits (s : State) : Bool := !s.fetchExhausted && !fetchStalls s

/-- Where the fetch leaves `pc` (41_fetch_hazard.md R113, R116, R118, R119). -/
def pcAfterFetch (s : State) : Word :=
  if fetchAdmits s then if isBranch (decodeFields (fetchWord s)).opcode then (predict s.pc s).2 else s.pc + 4 else s.pc

/-- The slot the fetch leaves in `L.IF`. -/
def slotAfterFetch (s : State) : Slot :=
  if fetchAdmits s then .ofFields (decodeFields (fetchWord s)) s.pc else s.latches.ifetch

theorem clockedFetch_eq (s : State) : clockedFetch s =
    { s with
      latches := { s.latches with ifetch := slotAfterFetch s }
      pc := pcAfterFetch s
      stalls := if fetchStalls s then s.stalls + 1 else s.stalls } := by
  have hmemory : isBranch (decodeFields (fetchWord s)).opcode = true → isMemory (decodeFields (fetchWord s)).opcode = false :=
    fun h => decide_eq_false (by have := (isBranch_iff _).mp h; omega)
  have hcomparator : (s.latches.rr.valid && decide ((decodeFields (fetchWord s)).left = s.latches.rr.dest.setWidth 32)) =
      hazard (decodeFields (fetchWord s)).left s := rfl
  have hword : decodeFields (readCell s.mem (s.pc.toNat / 4)) = decodeFields (fetchWord s) := rfl
  simp only [clockedFetch, slotAfterFetch, pcAfterFetch, fetchAdmits, fetchStalls_eq, hword, Bool.and_assoc, hcomparator]
  cases hopen : s.fetchExhausted with
  | true =>
    rw [if_pos (of_decide_eq_true hopen)]
    rfl
  | false =>
    rw [if_neg (of_decide_eq_false hopen)]
    cases hbranch : isBranch (decodeFields (fetchWord s)).opcode with
    | true => simp [hmemory hbranch]; rfl
    | false =>
      cases isMemory (decodeFields (fetchWord s)).opcode && hazard (decodeFields (fetchWord s)).left s with
      | true => simp
      | false => simp; rfl

theorem clockedFetch_addCycle (s : State) : clockedFetch s.addCycle = (clockedFetch s).addCycle := by
  rw [clockedFetch_eq, clockedFetch_eq]
  rfl

theorem clockedFetch_halted (s : State) : (clockedFetch s).halted = s.halted := by
  rw [clockedFetch_eq]
  rfl

end fetch

/-! ### The step -/

/-- The back end of a cycle in which nothing faults. -/
theorem backEnd_clocks {s : State} (hhalted : s.halted = false) (hnone : faultOf s = none) :
    ∃ v, runStages backEndOrder s = .next v ∧ v.halted = false ∧ (advanceIF v).addCycle = clockedBackEnd s :=
  ⟨_, runStages_clocks unfed_backEndOrder hhalted fun st _ => (faultOf_eq_none_iff s).mp hnone st,
    by rw [State.halted, clockStages_fault]; exact hhalted, clockStages_backEnd s⟩

theorem traversal_clocks {s : State} (hhalted : s.halted = false) (hnone : faultOf s = none) :
    ∃ u, traversal s = .next u ∧ u.halted = false ∧ u.addCycle = clocked s := by
  obtain ⟨v, hback, hkept, hclocked⟩ := backEnd_clocks hhalted hnone
  refine ⟨clockedFetch (advanceIF v), ?_, (clockedFetch_halted _).trans hkept, ?_⟩
  · rw [traversal, hback, thenUnlessHalted_next _ hkept, fetchStage_clocks rfl rfl]
  · rw [clocked, ← hclocked, clockedFetch_addCycle]

/-- Settles O27: each stage that does not fault is clocked, and so is the fetch; the ten stages in their order leave what the
registers clocked at once hold. -/
theorem stepIsElevenClockedRegisters : Obligations.StepIsElevenClockedRegisters := by
  intro s hrunning hnone
  obtain ⟨v, hstep, hv, -⟩ := step_of_running hrunning
  obtain ⟨u, hu, hkept, hclocked⟩ := traversal_clocks hrunning.2.1 hnone
  cases hu.symm.trans hv
  rw [hstep, endCycle, if_neg (by simp [hkept]), hclocked]

/-- Settles O28: the stages run in the order of R182 until the first that faults, and the step is abandoned. -/
theorem oldestFaultIsRecordedAlone : Obligations.OldestFaultIsRecordedAlone := by
  intro s f hrunning hf
  obtain ⟨u, hstep, htraversal, -⟩ := step_of_running hrunning
  obtain ⟨-, hhalted, -⟩ := hrunning
  obtain ⟨v, hback, hv, hfault⟩ := runStages_faults unfed_backEndOrder hhalted (fun _ _ => rfl) (faultOf_eq s ▸ hf)
  rw [traversal, hback, thenUnlessHalted_halted _ hv] at htraversal
  cases htraversal
  rw [hstep, endCycle, if_pos hv, abandon, hfault, State.setFault]

/-! ### What a step can do -/

section outcomes
variable {s t : State}

/-- The fault of a cycle is that of some stage's slot (60_exceptions.md R181). -/
theorem faultOf_eq_some {f : FaultRecord} (h : faultOf s = some f) :
    ∃ st c, faultIn st (s.slotAt st) = some c ∧ f = ⟨some c, st, (s.slotAt st).fpc⟩ := by
  obtain ⟨st, -, hst⟩ := List.exists_of_findSome?_eq_some h
  obtain ⟨c, hc, rfl⟩ := Option.map_eq_some_iff.mp hst
  exact ⟨st, c, hc, rfl⟩

theorem faultOf_cause {f : FaultRecord} (h : faultOf s = some f) : f.cause.isSome = true := by
  obtain ⟨st, c, -, rfl⟩ := faultOf_eq_some h
  rfl

theorem clocked_halted (s : State) : (clocked s).halted = s.halted := by
  rw [clocked, clockedFetch_halted, clockedBackEnd, clockedBranch_eq]
  rfl

/-- All that a step which answers a next state can do: hold a finished machine, record the cycle's fault, or clock the registers. -/
theorem step_outcomes (h : step s = .next t) :
    (s.done = true ∧ t = s) ∨ (s.Running ∧ ∃ f, faultOf s = some f ∧ t = { s with fault := f }) ∨
      (s.Running ∧ faultOf s = none ∧ t = clocked s) := by
  obtain ⟨hlen, hcause, ⟨hdone, ht⟩ | ⟨hdone, -⟩⟩ := step_cases h
  · exact .inl ⟨hdone, ht⟩
  · have hrunning : s.Running := ⟨hlen, (halted_eq_false_iff s).mpr hcause, hdone⟩
    cases hf : faultOf s with
    | some f => exact .inr (.inl ⟨hrunning, f, rfl, Host.Outcome.next.inj (h.symm.trans (oldestFaultIsRecordedAlone s f hrunning hf))⟩)
    | none => exact .inr (.inr ⟨hrunning, rfl, Host.Outcome.next.inj (h.symm.trans (stepIsElevenClockedRegisters s hrunning hf))⟩)

/-- A completed step is the clocking of the eleven registers, in a running state without a fault condition. -/
theorem completes_iff : Completes s t ↔ s.Running ∧ faultOf s = none ∧ t = clocked s := by
  constructor
  · rintro ⟨hrunning, hstep, ht⟩
    obtain ⟨hdone, -⟩ | ⟨-, f, hf, rfl⟩ | hclocked := step_outcomes hstep
    · simp [hrunning.2.2] at hdone
    · exact absurd ht (by simp [State.halted, faultOf_cause hf])
    · exact hclocked
  · rintro ⟨hrunning, hnone, rfl⟩
    exact ⟨hrunning, stepIsElevenClockedRegisters s hrunning hnone, (clocked_halted s).trans hrunning.2.1⟩

theorem Completes.eq_clocked (h : Completes s t) : t = clocked s := (completes_iff.mp h).2.2

theorem Completes.faultIn_eq_none (h : Completes s t) (st : Stage) : faultIn st (s.slotAt st) = none :=
  (faultOf_eq_none_iff s).mp (completes_iff.mp h).2.1 st

end outcomes

/-! ### Faults, holding and refusal -/

/-- Settles O29: of the three things a step can do, only recording a fault makes a core HALTED. -/
theorem faultEntryKeepsAllOtherState : Obligations.FaultEntryKeepsAllOtherState := by
  intro s t hs hstep ht
  obtain ⟨-, rfl⟩ | ⟨-, f, -, rfl⟩ | ⟨-, -, rfl⟩ := step_outcomes hstep
  · simp [hs] at ht
  · rfl
  · simp [clocked_halted, hs] at ht

/-- Settles O30. -/
theorem haltedCoreTakesNoStep : Obligations.HaltedCoreTakesNoStep := by
  intro s c hlen hcause
  simp [step, cycle, Nat.not_lt.mpr hlen, hcause]

/-- Settles O31. -/
theorem doneCoreHoldsAllState : Obligations.DoneCoreHoldsAllState := by
  intro s hlen hhalted hdone
  simp [step, cycle, Nat.not_lt.mpr hlen, (halted_eq_false_iff s).mp hhalted, hdone]

/-- Settles O32: a core that is not HALTED holds its state if it is DONE and takes a step if it is not. -/
theorem stepIsNeverStuck : Obligations.StepIsNeverStuck := by
  refine fun s => ⟨fun hlen hhalted => ?_, fun hlen => by simp [step, cycle, hlen]⟩
  cases hdone : s.done with
  | true => exact ⟨s, doneCoreHoldsAllState s hlen hhalted hdone⟩
  | false =>
    obtain ⟨u, hstep, -⟩ := step_of_running ⟨hlen, hhalted, hdone⟩
    exact ⟨_, hstep⟩

end Sys2Proof.Machine

/-! The clocked cycle field by field, and what a completed step is by it. -/

namespace Sys2Proof.Machine

section clocked
variable (s : State)

theorem clockedBackEnd_eq : clockedBackEnd s =
    { s with
      regs := clockedRegs s
      pc := pcAtFetch s
      mem := clockedMem s
      latches :=
        { ifetch := .empty
          id := s.latches.ifetch
          ia := actID s.latches.id
          rr := actIA s.latches.ia
          add := actRR (clockedRegs s) s.latches.rr
          mul := actAdd s.latches.add
          div := actMul s.latches.mul
          br := actDiv s.latches.div
          mem1 := s.latches.br
          mem2 := s.latches.mem1
          wb := actMem2 s.mem s.latches.mem2 }
      pt := (predictorAtFetch s).1
      btb := (predictorAtFetch s).2
      cycles := s.cycles + 1
      commits := if s.latches.wb.valid then s.commits + 1 else s.commits
      illegal := s.latches.id.dropped || s.illegal
      illegalCount := if s.latches.id.dropped then s.illegalCount + 1 else s.illegalCount
      cursor := .ifetch } := by
  rw [clockedBackEnd, clockedBranch_eq]
  rfl

/-- All that the fetch of a cycle adds to its back end. -/
theorem clocked_eq : clocked s =
    { clockedBackEnd s with
      latches := { (clockedBackEnd s).latches with ifetch := slotAfterFetch (clockedBackEnd s) }
      pc := pcAfterFetch (clockedBackEnd s)
      stalls := if fetchStalls (clockedBackEnd s) then s.stalls + 1 else s.stalls } := by
  rw [clocked, clockedFetch_eq]
  have hstalls : (clockedBackEnd s).stalls = s.stalls := by rw [clockedBackEnd_eq]
  rw [hstalls]

@[simp] theorem clockedBackEnd_pc : (clockedBackEnd s).pc = pcAtFetch s := by rw [clockedBackEnd_eq]
@[simp] theorem clockedBackEnd_mem : (clockedBackEnd s).mem = clockedMem s := by rw [clockedBackEnd_eq]
@[simp] theorem clockedBackEnd_progLen : (clockedBackEnd s).progLen = s.progLen := by rw [clockedBackEnd_eq]
@[simp] theorem clockedBackEnd_ifetch : (clockedBackEnd s).latches.ifetch = .empty := by rw [clockedBackEnd_eq]
@[simp] theorem clockedBackEnd_rr : (clockedBackEnd s).latches.rr = actIA s.latches.ia := by rw [clockedBackEnd_eq]
@[simp] theorem clockedBackEnd_predictor : (clockedBackEnd s).predictor = predictorAtFetch s := by rw [clockedBackEnd_eq]; rfl

@[simp] theorem clocked_regs : (clocked s).regs = clockedRegs s := by rw [clocked_eq, clockedBackEnd_eq]
@[simp] theorem clocked_pc : (clocked s).pc = pcAfterFetch (clockedBackEnd s) := by rw [clocked_eq]
@[simp] theorem clocked_mem : (clocked s).mem = clockedMem s := by rw [clocked_eq, clockedBackEnd_eq]
@[simp] theorem clocked_progLen : (clocked s).progLen = s.progLen := by rw [clocked_eq, clockedBackEnd_eq]
@[simp] theorem clocked_predictor : (clocked s).predictor = predictorAtFetch s := by rw [clocked_eq, clockedBackEnd_eq]; rfl
@[simp] theorem clocked_cycles : (clocked s).cycles = s.cycles + 1 := by rw [clocked_eq, clockedBackEnd_eq]
@[simp] theorem clocked_stalls : (clocked s).stalls = if fetchStalls (clockedBackEnd s) then s.stalls + 1 else s.stalls := by
  rw [clocked_eq]
@[simp] theorem clocked_commits : (clocked s).commits = if s.latches.wb.valid then s.commits + 1 else s.commits := by
  rw [clocked_eq, clockedBackEnd_eq]
@[simp] theorem clocked_fault : (clocked s).fault = s.fault := by rw [clocked_eq, clockedBackEnd_eq]
@[simp] theorem clocked_illegal : (clocked s).illegal = (s.latches.id.dropped || s.illegal) := by rw [clocked_eq, clockedBackEnd_eq]
@[simp] theorem clocked_illegalCount :
    (clocked s).illegalCount = if s.latches.id.dropped then s.illegalCount + 1 else s.illegalCount := by
  rw [clocked_eq, clockedBackEnd_eq]
@[simp] theorem clocked_cursor : (clocked s).cursor = .ifetch := by rw [clocked_eq, clockedBackEnd_eq]
@[simp] theorem clocked_predUpdate : (clocked s).predUpdate = s.predUpdate := by rw [clocked_eq, clockedBackEnd_eq]

/-- Every latch is loaded from the one before it (40_pipeline_cycle.md R94). -/
theorem clocked_latches : (clocked s).latches =
    { ifetch := slotAfterFetch (clockedBackEnd s)
      id := s.latches.ifetch
      ia := actID s.latches.id
      rr := actIA s.latches.ia
      add := actRR (clockedRegs s) s.latches.rr
      mul := actAdd s.latches.add
      div := actMul s.latches.mul
      br := actDiv s.latches.div
      mem1 := s.latches.br
      mem2 := s.latches.mem1
      wb := actMem2 s.mem s.latches.mem2 } := by
  rw [clocked_eq, clockedBackEnd_eq]

end clocked

end Sys2Proof.Machine

namespace Sys2Proof.Machine

/-! ### What the fetch of a clocked cycle sees -/

section inputs
variable (s : State)

@[simp] theorem clockedBackEnd_fetchExhausted :
    (clockedBackEnd s).fetchExhausted = decide (4 * s.progLen ≤ (pcAtFetch s).toNat) := by simp [State.fetchExhausted]

@[simp] theorem clockedBackEnd_fetchWord :
    fetchWord (clockedBackEnd s) = readCell (clockedMem s) ((pcAtFetch s).toNat / 4) := by simp [fetchWord, fetchIndex]

theorem actIA_valid (sl : Slot) : (actIA sl).valid = sl.valid := by
  unfold actIA
  split <;> rfl

theorem actIA_dest (sl : Slot) : (actIA sl).dest = sl.dest := by
  unfold actIA
  split <;> rfl

@[simp] theorem clockedBackEnd_hazard (l : Word) :
    hazard l (clockedBackEnd s) = (s.latches.ia.valid && decide (l = s.latches.ia.dest.setWidth 32)) := by
  simp only [hazard, State.slotAt, Latches.get_rr, clockedBackEnd_rr, actIA_valid, actIA_dest]
  rfl

theorem predict_clockedBackEnd (a : Word) : predict a (clockedBackEnd s) = predict a (clocked s) :=
  predict_congr a (by simp)

end inputs

/-! ### Registers and memory after a cycle -/

theorem clockedRegs_of_writer {s : State} (hv : s.latches.wb.valid = true) (hop : s.latches.wb.opcode.toNat ≤ 5)
    (hdest : s.latches.wb.dest.toNat < 16) : clockedRegs s = s.regs.set s.latches.wb.dest.toNat s.latches.wb.right := by
  simp [clockedRegs, writesReg, hv, hop, hdest]

theorem clockedRegs_of_no_writer {s : State} (h : ¬(s.latches.wb.valid = true ∧ s.latches.wb.opcode.toNat ≤ 5)) :
    clockedRegs s = s.regs := by
  simp only [clockedRegs, writesReg, Bool.and_eq_true, decide_eq_true_eq, if_neg h, dite_eq_ite, ite_self]

/-- The register file after this cycle's WB (40_pipeline_cycle.md R98). -/
theorem clockedRegs_getElem (s : State) {k : Nat} (hk : k < 16) : (clockedRegs s)[k] =
    if s.latches.wb.valid = true ∧ s.latches.wb.opcode.toNat ≤ 5 ∧ s.latches.wb.dest.toNat = k then s.latches.wb.right
    else s.regs[k] := by
  by_cases hdest : s.latches.wb.dest.toNat < 16
  · by_cases hwrites : s.latches.wb.valid = true ∧ s.latches.wb.opcode.toNat ≤ 5
    · simp [clockedRegs_of_writer hwrites.1 hwrites.2 hdest, Vector.getElem_set, hwrites]
    · simp only [clockedRegs_of_no_writer hwrites, ← and_assoc, hwrites, false_and, if_false]
  · have hne : s.latches.wb.dest.toNat ≠ k := fun h => hdest (h ▸ hk)
    simp [clockedRegs, hdest, hne]

theorem clockedMem_of_store {s : State} (hv : s.latches.mem1.valid = true) (hop : s.latches.mem1.opcode = 6) :
    clockedMem s = writeCell s.mem s.latches.mem1.left.toNat s.latches.mem1.right := by simp [clockedMem, hv, hop]

theorem clockedMem_of_not_store {s : State} (h : ¬(s.latches.mem1.valid = true ∧ s.latches.mem1.opcode = 6)) :
    clockedMem s = s.mem := by
  simp only [clockedMem, Bool.and_eq_true, decide_eq_true_eq]
  exact if_neg h

/-- Settles O34. -/
theorem onlyWritebackChangesRegisters : Obligations.OnlyWritebackChangesRegisters := by
  intro s t hcompletes k hk
  simp only [hcompletes.eq_clocked, clocked_regs]
  exact clockedRegs_getElem s hk

/-- Settles O35: the cell that the ST names is in range, since the step did not fault. -/
theorem onlyStoreInMem1ChangesMemory : Obligations.OnlyStoreInMem1ChangesMemory := by
  intro s t hcompletes
  rw [hcompletes.eq_clocked, clocked_mem]
  constructor
  · intro a ha
    by_cases hstore : s.latches.mem1.valid = true ∧ s.latches.mem1.opcode = 6
    · rw [clockedMem_of_store hstore.1 hstore.2]
      exact readByte_writeCell_outside _ _ _ (ha.resolve_left (not_not_intro hstore))
    · rw [clockedMem_of_not_store hstore]
  · intro hwf hv hop
    rw [clockedMem_of_store hv hop]
    exact readCell_writeCell_same hwf _ (faultIn_mem1_eq_none.mp (hcompletes.faultIn_eq_none .mem1) hv hop)

/-- Settles O36. -/
theorem noStepWritesWhatTheHostSupplied : Obligations.NoStepWritesWhatTheHostSupplied := by
  intro s t hstep
  obtain ⟨-, rfl⟩ | ⟨-, f, -, rfl⟩ | ⟨-, -, rfl⟩ := step_outcomes hstep
  · exact ⟨rfl, rfl⟩
  · exact ⟨rfl, rfl⟩
  · exact ⟨clocked_progLen s, clocked_predUpdate s⟩

/-- Settles O33: the stall signal is that of the fetch, which sees what the back end leaves. -/
theorem countersOfAStep : Obligations.CountersOfAStep := by
  intro s t hrunning hstep
  refine ⟨fun ht => ?_, fun ht => ?_⟩
  · obtain ⟨-, hnone, rfl⟩ := completes_iff.mp ⟨hrunning, hstep, ht⟩
    obtain ⟨v, hback, hv, hclocked⟩ := backEnd_clocks hrunning.2.1 hnone
    have hstall : cycleStall s = fetchStalls (clockedBackEnd s) := by
      rw [cycleStall, hback, ← hclocked]
      simp only [hv, Bool.not_false, Bool.true_and]
      rfl
    rw [hstall, clocked_cycles, clocked_stalls, clocked_commits, clocked_illegalCount]
    refine ⟨rfl, ?_, ?_, ?_⟩
    · cases fetchStalls (clockedBackEnd s) <;> rfl
    · cases s.latches.wb.valid <;> rfl
    · cases h : s.latches.id.dropped <;> rw [Slot.dropped] at h <;> rw [h] <;> rfl
  · rw [faultEntryKeepsAllOtherState s t hrunning.2.1 hstep ht]
    exact ⟨rfl, rfl, rfl, rfl⟩

theorem isArith_iff (op : Byte) : isArith op = true ↔ 1 ≤ op.toNat ∧ op.toNat ≤ 4 := decide_eq_true_iff

/-- Settles O37: the registers that RR reads are those after WB, and its indices are in range, since the step did not fault. -/
theorem registerReadSeesThisCyclesWriteback : Obligations.RegisterReadSeesThisCyclesWriteback := by
  intro s t hcompletes hv
  obtain ⟨harith, hbranch⟩ := (faultIn_rr_eq_none (sl := s.latches.rr)).mp (hcompletes.faultIn_eq_none .rr) hv
  have hadd : t.latches.add = actRR (clockedRegs s) s.latches.rr := by rw [hcompletes.eq_clocked, clocked_latches]
  rw [hadd]
  constructor
  · intro hlo hhi
    have hop : isArith s.latches.rr.opcode = true := (isArith_iff _).mpr ⟨hlo, hhi⟩
    obtain ⟨hleft, hright⟩ := harith hop
    refine ⟨hleft, hright, ?_⟩
    rw [actRR, if_pos (by simp [hv, hop]), regAt_of_lt _ hleft, regAt_of_lt _ hright, clockedRegs_getElem, clockedRegs_getElem]
  · intro hlo hhi
    have hop : isBranch s.latches.rr.opcode = true := (isBranch_iff _).mpr ⟨hlo, hhi⟩
    have hnot : isArith s.latches.rr.opcode ≠ true := fun h => by simp [isBranch_of_isArith h] at hop
    have hdest := hbranch hop
    refine ⟨hdest, ?_⟩
    rw [actRR, if_neg (by simp [hnot]), if_pos (by simp [hv, hop]), regAt_of_lt _ hdest, clockedRegs_getElem]

theorem actID_eq (sl : Slot) : actID sl = if sl.dropped then .empty else sl := rfl

/-- Settles O44. -/
theorem idDropsAndReportsIllegalOpcodes : Obligations.IdDropsAndReportsIllegalOpcodes := by
  intro s t hcompletes
  simp only [hcompletes.eq_clocked, clocked_latches, clocked_illegal, clocked_illegalCount, actID_eq]
  refine ⟨fun hv hop => ?_, fun hkept => ?_⟩
  · have hdropped : s.latches.id.dropped = true := by simp [Slot.dropped, hv, hop]
    simp [hdropped]
  · have hdropped : s.latches.id.dropped = false := by
      simpa [Slot.dropped, or_iff_not_imp_left] using hkept
    simp [hdropped]

/-! ### The fetch of a completed step -/

section fetch
variable {s t : State}

theorem slotAfterFetch_of_admits (h : fetchAdmits s = true) : slotAfterFetch s = .ofFields (decodeFields (fetchWord s)) s.pc := if_pos h

theorem slotAfterFetch_of_not_admits (h : fetchAdmits s = false) : slotAfterFetch s = s.latches.ifetch := if_neg (by simp [h])

theorem pcAfterFetch_of_not_admits (h : fetchAdmits s = false) : pcAfterFetch s = s.pc := if_neg (by simp [h])

/-- The fetch stalls exactly on the comparator (41_fetch_hazard.md R117). -/
theorem clockedBackEnd_fetchStalls_iff (hopen : (pcAtFetch s).toNat < 4 * s.progLen) :
    let f := decodeFields (readCell (clockedMem s) ((pcAtFetch s).toNat / 4))
    fetchStalls (clockedBackEnd s) = true ↔
      (f.opcode = 5 ∨ f.opcode = 6) ∧ s.latches.ia.valid = true ∧ f.left = s.latches.ia.dest.setWidth 32 := by
  simp only [fetchStalls_eq, clockedBackEnd_fetchExhausted, clockedBackEnd_fetchWord, clockedBackEnd_hazard, isMemory]
  simp [hopen, ← BitVec.toNat_inj]

/-- Settles O40. -/
theorem exhaustedFetchAdmitsNothing : Obligations.ExhaustedFetchAdmitsNothing := by
  intro s t hcompletes hexhausted
  have hstalls : fetchStalls (clockedBackEnd s) = false := by simp [fetchStalls_eq, hexhausted]
  have hadmits : fetchAdmits (clockedBackEnd s) = false := by simp [fetchAdmits, hexhausted]
  simp [hcompletes.eq_clocked, clocked_latches, slotAfterFetch_of_not_admits hadmits, pcAfterFetch_of_not_admits hadmits, hstalls]

/-- Settles O41. -/
theorem onlyTheLoadStoreHazardStalls : Obligations.OnlyTheLoadStoreHazardStalls := by
  intro s t hcompletes hopen f
  have hiff := clockedBackEnd_fetchStalls_iff hopen
  obtain rfl := hcompletes.eq_clocked
  simp only [f, clocked_mem, clocked_stalls, clocked_latches, clocked_pc]
  refine ⟨fun hhazard => ?_, fun hhazard => ?_⟩
  · have hstalls : fetchStalls (clockedBackEnd s) = true := hiff.mpr hhazard
    have hadmits : fetchAdmits (clockedBackEnd s) = false := by simp [fetchAdmits, hstalls]
    simp [hstalls, slotAfterFetch_of_not_admits hadmits, pcAfterFetch_of_not_admits hadmits]
  · have hstalls : fetchStalls (clockedBackEnd s) = false := Bool.eq_false_iff.mpr fun h => hhazard (hiff.mp h)
    have hadmits : fetchAdmits (clockedBackEnd s) = true := by simp [fetchAdmits, hstalls, hopen]
    simp [hstalls, slotAfterFetch_of_admits hadmits, Slot.ofFields]

/-- Settles O43. -/
theorem fetchedBranchFollowsThePrediction : Obligations.FetchedBranchFollowsThePrediction := by
  intro s t hcompletes hopen f hlo hhi
  have hpc := predictionFollowsTheCounter.2 s t hcompletes hopen hlo hhi
  have hno : ¬((f.opcode = 5 ∨ f.opcode = 6) ∧ s.latches.ia.valid = true ∧ f.left = s.latches.ia.dest.setWidth 32) := by
    rintro ⟨hop | hop, -⟩ <;> simp [hop] at hlo
  obtain ⟨hstalls, hslot⟩ := (onlyTheLoadStoreHazardStalls s t hcompletes hopen).2 hno
  refine ⟨hslot, hstalls, hpc.trans ?_⟩
  simp [predict]

end fetch

/-! ### What a cycle does not read -/

theorem clockedRegs_congr {s t : State} (hregs : t.regs = s.regs) (hslot : t.latches.wb = s.latches.wb) :
    clockedRegs t = clockedRegs s := by simp only [clockedRegs, hregs, hslot]

theorem clockedMem_congr {s t : State} (hmem : t.mem = s.mem) (hslot : t.latches.mem1 = s.latches.mem1) :
    clockedMem t = clockedMem s := by simp only [clockedMem, hmem, hslot]

/-- Settles O45: BR hands its slot on as it is, and what it tests reaches no other stage of the cycle. -/
theorem branchOutcomeSquashesNothing : Obligations.BranchOutcomeSquashesNothing := by
  intro s s' t t' v hs' _ _ hcompletes hcompletes'
  obtain rfl := hcompletes.eq_clocked
  obtain rfl := hcompletes'.eq_clocked
  have hregs : clockedRegs s' = clockedRegs s := clockedRegs_congr (by rw [hs']) (by rw [hs'])
  have hmem : clockedMem s' = clockedMem s := clockedMem_congr (by rw [hs']) (by rw [hs'])
  refine ⟨by rw [clocked_regs, clocked_regs, hregs], by rw [clocked_mem, clocked_mem, hmem], by simp [hs'], by simp [hs'],
    fun st hif hmem1 => ?_⟩
  simp only [State.slotAt, clocked_latches, hregs]
  cases st with
  | ifetch => exact absurd rfl hif
  | mem1 => exact absurd rfl hmem1
  | _ => simp [hs']

/-- Settles O46. -/
theorem countersAndAnomalyRecordAreReadByNothing : Obligations.CountersAndAnomalyRecordAreReadByNothing := by
  intro s t cy st co n b hcompletes
  obtain ⟨hrunning, hnone, rfl⟩ := completes_iff.mp hcompletes
  refine ⟨_, stepIsElevenClockedRegisters _ hrunning hnone, ?_⟩
  have htables : predictorAtFetch { s with cycles := cy, stalls := st, commits := co, illegal := b, illegalCount := n } =
    predictorAtFetch s := predictorAtFetch_congr rfl rfl rfl
  have hback : clockedBackEnd { s with cycles := cy, stalls := st, commits := co, illegal := b, illegalCount := n } =
    { clockedBackEnd s with
       cycles := cy + 1, stalls := st, commits := if s.latches.wb.valid then co + 1 else co
       illegal := s.latches.id.dropped || b, illegalCount := if s.latches.id.dropped then n + 1 else n } := by
    rw [clockedBackEnd_eq, clockedBackEnd_eq, htables]
    rfl
  rw [clocked_eq, clocked_eq, hback]
  rfl

end Sys2Proof.Machine

/-! How a slot travels from latch to latch, and what every step keeps by it: the invariant, the account of the admissions, the literals
of the stores. -/

namespace Sys2Proof.Machine

/-! ### A slot on its way -/

/-- The slot is the same instruction from the same address; an action overwrites `left` and `right` alone (30_encoding.md R82). -/
def Slot.Keeps (a b : Slot) : Prop := b.valid = a.valid ∧ b.opcode = a.opcode ∧ b.dest = a.dest ∧ b.fpc = a.fpc

theorem Slot.Keeps.refl (a : Slot) : a.Keeps a := ⟨rfl, rfl, rfl, rfl⟩

theorem Slot.Keeps.trans {a b c : Slot} (hab : a.Keeps b) (hbc : b.Keeps c) : a.Keeps c := by
  obtain ⟨hv, hop, hdest, hfpc⟩ := hab
  obtain ⟨hv', hop', hdest', hfpc'⟩ := hbc
  exact ⟨hv'.trans hv, hop'.trans hop, hdest'.trans hdest, hfpc'.trans hfpc⟩

section actions
variable (sl : Slot)

theorem actIA_keeps : sl.Keeps (actIA sl) := by
  unfold actIA
  split <;> exact ⟨rfl, rfl, rfl, rfl⟩

theorem actRR_keeps (x : Vector Word 16) : sl.Keeps (actRR x sl) := by
  unfold actRR
  split
  · exact ⟨rfl, rfl, rfl, rfl⟩
  · split <;> exact ⟨rfl, rfl, rfl, rfl⟩

theorem actAdd_keeps : sl.Keeps (actAdd sl) := by
  unfold actAdd
  split
  · exact ⟨rfl, rfl, rfl, rfl⟩
  · split <;> exact ⟨rfl, rfl, rfl, rfl⟩

theorem actMul_keeps : sl.Keeps (actMul sl) := by
  unfold actMul
  split <;> exact ⟨rfl, rfl, rfl, rfl⟩

theorem actDiv_keeps : sl.Keeps (actDiv sl) := by
  unfold actDiv
  split <;> exact ⟨rfl, rfl, rfl, rfl⟩

theorem actMem2_keeps (m : Memory) : sl.Keeps (actMem2 m sl) := by
  unfold actMem2
  split <;> exact ⟨rfl, rfl, rfl, rfl⟩

end actions

section transfer
variable {s : State} {st n : Stage}

theorem exists_prev (hn : n ≠ .ifetch) : ∃ st : Stage, st.next? = some n := by
  cases n with
  | ifetch => exact absurd rfl hn
  | id => exact ⟨.ifetch, rfl⟩
  | ia => exact ⟨.id, rfl⟩
  | rr => exact ⟨.ia, rfl⟩
  | add => exact ⟨.rr, rfl⟩
  | mul => exact ⟨.add, rfl⟩
  | div => exact ⟨.mul, rfl⟩
  | br => exact ⟨.div, rfl⟩
  | mem1 => exact ⟨.br, rfl⟩
  | mem2 => exact ⟨.mem1, rfl⟩
  | wb => exact ⟨.mem2, rfl⟩

/-- A slot that ID does not drop is in the next latch one cycle later (40_pipeline_cycle.md R91, R95). -/
theorem clocked_keeps (hn : st.next? = some n) (hkept : st = .id → (s.slotAt .id).dropped = false) :
    (s.slotAt st).Keeps ((clocked s).slotAt n) := by
  cases st <;> cases hn <;> simp only [State.slotAt, clocked_latches]
  case ifetch | br | mem1 => exact .refl _
  case id =>
    have hdropped : s.latches.id.dropped = false := hkept rfl
    simp only [Latches.get_id, Latches.get_ia, actID_eq, hdropped]
    exact .refl _
  case ia => exact actIA_keeps _
  case rr => exact actRR_keeps _ _
  case add => exact actAdd_keeps _
  case mul => exact actMul_keeps _
  case div => exact actDiv_keeps _
  case mem2 => exact actMem2_keeps _ _

theorem clocked_ia_of_dropped (h : (s.slotAt .id).dropped = true) : (clocked s).slotAt .ia = .empty := by
  have hdropped : s.latches.id.dropped = true := h
  simp only [State.slotAt, clocked_latches, Latches.get_ia, actID_eq, hdropped, if_true]

/-- A slot that no action changes. -/
structure Slot.Passive (sl : Slot) : Prop where
  id : actID sl = sl
  ia : actIA sl = sl
  rr (x : Vector Word 16) : actRR x sl = sl
  add : actAdd sl = sl
  mul : actMul sl = sl
  div : actDiv sl = sl
  mem2 (m : Memory) : actMem2 m sl = sl

theorem passive_of_bubble {sl : Slot} (h : sl.valid = false) : sl.Passive :=
  ⟨actID_of_bubble h, actIA_of_bubble h, actRR_of_bubble h, actAdd_of_bubble h, actMul_of_bubble h, actDiv_of_bubble h,
    actMem2_of_bubble h⟩

/-- ST acts in Mem1 alone and RET in no stage, and neither changes its slot (40_pipeline_cycle.md R96). -/
theorem passive_of_opcode {sl : Slot} (h : sl.opcode = 6 ∨ sl.opcode = 12) : sl.Passive := by
  have hid : sl.dropped = false := by obtain h | h := h <;> simp [Slot.dropped, h]
  have hrr : isArith sl.opcode = false ∧ isBranch sl.opcode = false := by obtain h | h := h <;> rw [h] <;> decide
  have hne : ∀ op : Byte, op ≠ 6 → op ≠ 12 → sl.opcode ≠ op := fun op h6 h12 e => by
    obtain h | h := h
    · exact h6 (e.symm.trans h)
    · exact h12 (e.symm.trans h)
  constructor
  · rw [actID_eq, hid]; rfl
  · simp [actIA, hne]
  · intro x; simp [actRR, hrr]
  · simp [actAdd, hne]
  · simp [actMul, hne]
  · simp [actDiv, hne]
  · intro m; simp [actMem2, hne]

theorem clocked_of_passive (hn : st.next? = some n) (h : (s.slotAt st).Passive) : (clocked s).slotAt n = s.slotAt st := by
  cases st <;> cases hn <;> simp only [State.slotAt, clocked_latches] at h ⊢
  case ifetch | br | mem1 => rfl
  case id => exact h.id
  case ia => exact h.ia
  case rr => exact h.rr _
  case add => exact h.add
  case mul => exact h.mul
  case div => exact h.div
  case mem2 => exact h.mem2 _

/-- `L.IF` is filled by the fetch alone. -/
theorem clocked_ifetch (s : State) : (clocked s).slotAt .ifetch =
    if fetchAdmits (clockedBackEnd s) then .ofFields (decodeFields (fetchWord (clockedBackEnd s))) (pcAtFetch s) else .empty := by
  simp only [State.slotAt, clocked_latches, Latches.get_ifetch, slotAfterFetch, clockedBackEnd_pc, clockedBackEnd_ifetch]

theorem clocked_ifetch_valid (s : State) : ((clocked s).slotAt .ifetch).valid = fetchAdmits (clockedBackEnd s) := by
  rw [clocked_ifetch]
  cases fetchAdmits (clockedBackEnd s) <;> rfl

end transfer

/-! ### The invariant -/

section invariant
variable {s : State}

theorem bubblesEmpty_clocked (h : BubblesEmpty s) : BubblesEmpty (clocked s) := by
  intro n _ hv
  by_cases hn : n = .ifetch
  · subst hn
    rw [clocked_ifetch_valid] at hv
    simp [clocked_ifetch, hv]
  · obtain ⟨st, hst⟩ := exists_prev hn
    by_cases hdropped : st = .id ∧ (s.slotAt .id).dropped = true
    · obtain ⟨rfl, hdropped⟩ := hdropped
      cases hst
      exact clocked_ia_of_dropped hdropped
    · obtain ⟨hvalid, -⟩ := clocked_keeps hst fun hid => Bool.eq_false_iff.mpr fun h => hdropped ⟨hid, h⟩
      have hb := hvalid.symm.trans hv
      rw [clocked_of_passive hst (passive_of_bubble hb)]
      exact h st st.mem_all hb

theorem legalPastID_clocked (h : LegalPastID s) : LegalPastID (clocked s) := by
  intro n hn hv
  have hif : n ≠ .ifetch := by rintro rfl; simp at hn
  obtain ⟨st, hst⟩ := exists_prev hif
  by_cases hid : st = .id
  · subst hid
    cases hst
    cases hdropped : (s.slotAt .id).dropped with
    | true => simp [clocked_ia_of_dropped hdropped, Slot.empty] at hv
    | false =>
      obtain ⟨hvalid, hop, -⟩ := clocked_keeps (s := s) (st := .id) (n := .ia) rfl fun _ => hdropped
      rw [hop]
      simpa [Slot.dropped, hvalid.symm.trans hv] using hdropped
  · obtain ⟨hvalid, hop, -⟩ := clocked_keeps (s := s) hst fun h => absurd h hid
    rw [hop]
    refine h st ?_ (hvalid.symm.trans hv)
    cases st <;> cases hst <;> simp at hid hn ⊢

theorem predictorIdle_clocked (h : PredictorIdle s) : PredictorIdle (clocked s) := by
  intro hupdate
  rw [clocked_predUpdate] at hupdate
  have htables : (clocked s).predictor = s.predictor := by simp [predictorAtFetch, hupdate]
  obtain ⟨hpt, hbtb⟩ := Prod.mk.inj htables
  rw [hpt, hbtb]
  exact h hupdate

theorem illegalAgrees_clocked (h : IllegalAgrees s) : IllegalAgrees (clocked s) := by
  rw [IllegalAgrees, clocked_illegal, clocked_illegalCount, h]
  cases s.latches.id.dropped <;> simp

theorem wf_clocked (h : s.mem.wf = true) (hnone : faultOf s = none) : (clocked s).mem.wf = true := by
  rw [clocked_mem]
  by_cases hstore : s.latches.mem1.valid = true ∧ s.latches.mem1.opcode = 6
  · obtain ⟨hv, hop⟩ := hstore
    rw [clockedMem_of_store hv hop]
    exact wf_writeCell h _ (faultIn_mem1_eq_none.mp ((faultOf_eq_none_iff s).mp hnone .mem1) hv hop)
  · rwa [clockedMem_of_not_store hstore]

/-- FAULT is still clear after a cycle in which nothing faulted. -/
theorem faultLegal_clocked (h : FaultLegal s) (hhalted : s.halted = false) : FaultLegal (clocked s) := by
  have hcause := (halted_eq_false_iff s).mp hhalted
  have hclear : s.fault = .clear := by simpa [FaultLegal, hcause] using h
  simp [FaultLegal, hclear, FaultRecord.clear]

/-- The fault of a cycle names its stage and the slot still held there (60_exceptions.md R181, R183). -/
theorem faultLegal_recorded {f : FaultRecord} (hf : faultOf s = some f) : FaultLegal { s with fault := f } := by
  obtain ⟨st, c, hc, rfl⟩ := faultOf_eq_some hf
  cases st with
  | ifetch | id | ia | add | mul | br => cases hc
  | rr => obtain ⟨hv, rfl, -⟩ := faultIn_rr_eq_some.mp hc; exact ⟨by simp, hv, rfl⟩
  | div => obtain ⟨hv, -, -, rfl⟩ := faultIn_div_eq_some.mp hc; exact ⟨by simp, hv, rfl⟩
  | mem1 => obtain ⟨hv, -, -, rfl⟩ := faultIn_mem1_eq_some.mp hc; exact ⟨by simp, hv, rfl⟩
  | mem2 => obtain ⟨hv, -, -, rfl⟩ := faultIn_mem2_eq_some.mp hc; exact ⟨by simp, hv, rfl⟩
  | wb => obtain ⟨hv, -, -, rfl⟩ := faultIn_wb_eq_some.mp hc; exact ⟨by simp, hv, rfl⟩

/-- Settles O48: the state is held, or FAULT alone is written, or every conjunct is kept by the clocking. -/
theorem stepKeepsTheInvariant : Obligations.StepKeepsTheInvariant := by
  intro s t hinv hstep
  obtain ⟨-, rfl⟩ | ⟨-, f, hf, rfl⟩ | ⟨⟨hlen, hhalted, -⟩, hnone, rfl⟩ := step_outcomes hstep
  · exact hinv
  · obtain ⟨hwf, hlen, hcursor, hbubbles, hlegal, hillegal, hidle, -⟩ := hinv
    exact ⟨hwf, hlen, hcursor, hbubbles, hlegal, hillegal, hidle, faultLegal_recorded hf⟩
  · obtain ⟨hwf, -, -, hbubbles, hlegal, hillegal, hidle, hfault⟩ := hinv
    exact ⟨wf_clocked hwf hnone, (clocked_progLen s).trans_le hlen, clocked_cursor s, bubblesEmpty_clocked hbubbles,
      legalPastID_clocked hlegal, illegalAgrees_clocked hillegal, predictorIdle_clocked hidle, faultLegal_clocked hfault hhalted⟩

end invariant

/-- Settles O47: at the start of a run nothing is in flight, counted or recorded. -/
theorem invariantAtReset : Obligations.InvariantAtReset := by
  have hboot : ∀ (image : Memory) (n : Nat) (u : Bool), image.wf = true → n ≤ 65536 →
      Inv (State.boot image n u) ∧ AdmissionsAccounted (State.boot image n u) := by
    intro image n u hwf hn
    have hempty : ∀ st : Stage, (State.boot image n u).slotAt st = .empty := fun st => by cases st <;> rfl
    refine ⟨⟨hwf, hn, rfl, fun st _ _ => hempty st, fun st _ hv => ?_, rfl, fun _ => ⟨rfl, rfl⟩, rfl⟩, Nat.le_refl 0⟩
    rw [hempty] at hv
    cases hv
  exact ⟨(hboot [] 0 false rfl (by decide)).1, (hboot [] 0 false rfl (by decide)).2, hboot⟩

/-! ### The account of the admissions -/

/-- The valid slots counted latch by latch. -/
theorem inFlight_eq (s : State) : inFlight s =
    s.latches.ifetch.valid.toNat + s.latches.id.valid.toNat + s.latches.ia.valid.toNat + s.latches.rr.valid.toNat +
      s.latches.add.valid.toNat + s.latches.mul.valid.toNat + s.latches.div.valid.toNat + s.latches.br.valid.toNat +
      s.latches.mem1.valid.toNat + s.latches.mem2.valid.toNat + s.latches.wb.valid.toNat := by
  have hcons : ∀ (q : Stage → Bool) (st : Stage) (rest : List Stage),
      ((st :: rest).filter q).length = (q st).toNat + (rest.filter q).length := fun q st rest => by
    cases h : q st <;> simp [h, Nat.add_comm]
  simp only [inFlight, Stage.all, hcons, List.filter_nil, List.length_nil, State.slotAt, Latches.get_ifetch, Latches.get_id,
    Latches.get_ia, Latches.get_rr, Latches.get_add, Latches.get_mul, Latches.get_div, Latches.get_br, Latches.get_mem1,
    Latches.get_mem2, Latches.get_wb]
  omega

theorem actID_valid_toNat (sl : Slot) : (actID sl).valid.toNat + sl.dropped.toNat = sl.valid.toNat := by
  rw [actID_eq]
  cases hdropped : sl.dropped with
  | true =>
    have hv : sl.valid = true := (Bool.and_eq_true_iff.mp hdropped).1
    rw [hv]
    rfl
  | false => rfl

/-- What is in flight after a cycle: what was, less WB's slot and a slot that ID drops, and what the fetch admitted. -/
theorem inFlight_clocked (s : State) :
    inFlight (clocked s) + s.latches.wb.valid.toNat + s.latches.id.dropped.toNat =
      inFlight s + (clocked s).latches.ifetch.valid.toNat := by
  have hid := actID_valid_toNat s.latches.id
  rw [inFlight_eq, inFlight_eq]
  simp only [clocked_latches, actIA_valid, (actRR_keeps _ _).1, (actAdd_keeps _).1, (actMul_keeps _).1, (actDiv_keeps _).1,
    (actMem2_keeps _ _).1]
  omega

/-- Settles O49: WB and ID count what leaves, and a fetch that stalls is none that admits. -/
theorem noInstructionIsLostOrDoubled : Obligations.NoInstructionIsLostOrDoubled := by
  intro s t hcompletes
  obtain rfl := hcompletes.eq_clocked
  have hcommits : (clocked s).commits = s.commits + s.latches.wb.valid.toNat := by
    rw [clocked_commits]
    cases s.latches.wb.valid <;> rfl
  have hillegal : (clocked s).illegalCount = s.illegalCount + s.latches.id.dropped.toNat := by
    rw [clocked_illegalCount]
    cases s.latches.id.dropped <;> rfl
  refine ⟨by rw [hcommits, hillegal]; have := inFlight_clocked s; omega, fun hv => ?_⟩
  have hadmits : fetchAdmits (clockedBackEnd s) = true := (clocked_ifetch_valid s).symm.trans hv
  have hstalls : fetchStalls (clockedBackEnd s) = false := by simpa using (Bool.and_eq_true_iff.mp hadmits).2
  simp [hstalls]

/-- Settles O50: a completed cycle adds 1 to CYCLES, and 1 to the account for the instruction it admits or for its stall. -/
theorem stepKeepsAdmissionsAccounted : Obligations.StepKeepsAdmissionsAccounted := by
  intro s t haccount hstep
  obtain ⟨-, rfl⟩ | ⟨-, f, -, rfl⟩ | hclocked := step_outcomes hstep
  · exact haccount
  · exact haccount
  · obtain ⟨hbalance, hstall⟩ := noInstructionIsLostOrDoubled s t (completes_iff.mpr hclocked)
    obtain ⟨-, -, rfl⟩ := hclocked
    have hcycles := clocked_cycles s
    have hle : (clocked s).stalls ≤ s.stalls + 1 := by
      rw [clocked_stalls]
      split <;> omega
    rw [AdmissionsAccounted] at haccount ⊢
    cases hv : (clocked s).latches.ifetch.valid with
    | true =>
      have hstalls := hstall hv
      rw [hv, Bool.toNat_true] at hbalance
      omega
    | false =>
      rw [hv, Bool.toNat_false] at hbalance
      omega

/-! ### The literals of the stores -/

/-- A valid ST carries the operands of its word. -/
def Slot.LiteralStore (sl : Slot) : Prop := sl.valid = true → sl.opcode = 6 → FitsByte sl.left ∧ FitsByte sl.right

theorem fitsByte_sext8 (b : Byte) : FitsByte (sext8 b) := (sext8_lowByte_iff _).mp (by rw [lowByte_sext8])

/-- No action overwrites an operand of a ST. -/
theorem clocked_of_store {s : State} {st n : Stage} (hn : st.next? = some n) (hop : ((clocked s).slotAt n).opcode = 6) :
    (clocked s).slotAt n = s.slotAt st := by
  by_cases hdropped : st = .id ∧ (s.slotAt .id).dropped = true
  · obtain ⟨rfl, hdropped⟩ := hdropped
    cases hn
    rw [clocked_ia_of_dropped hdropped] at hop
    cases hop
  · obtain ⟨-, hsame, -⟩ := clocked_keeps hn fun hid => Bool.eq_false_iff.mpr fun h => hdropped ⟨hid, h⟩
    exact clocked_of_passive hn (passive_of_opcode (.inl (hsame.symm.trans hop)))

theorem literalStores_clocked {s : State} (h : LiteralStores s) : LiteralStores (clocked s) := by
  intro n hn hv hop
  by_cases hif : n = .ifetch
  · subst hif
    rw [clocked_ifetch_valid] at hv
    rw [clocked_ifetch, if_pos hv]
    exact ⟨fitsByte_sext8 _, fitsByte_sext8 _⟩
  · obtain ⟨st, hst⟩ := exists_prev hif
    have hkept := clocked_of_store hst hop
    rw [hkept] at hv hop ⊢
    refine h st ?_ hv hop
    cases st <;> cases hst <;> simp at hn ⊢

/-- Settles O51: an ST that does not fault has a cell below 65536, and a literal below that is one up to 127. -/
theorem storesReachOnlyTheFirst128Cells : Obligations.StoresReachOnlyTheFirst128Cells := by
  intro s t hliteral hstep
  obtain ⟨-, rfl⟩ | ⟨-, f, -, rfl⟩ | ⟨-, hnone, rfl⟩ := step_outcomes hstep
  · exact ⟨hliteral, fun _ _ => rfl⟩
  · exact ⟨hliteral, fun _ _ => rfl⟩
  · refine ⟨literalStores_clocked hliteral, fun a ha => ?_⟩
    rw [clocked_mem]
    by_cases hstore : s.latches.mem1.valid = true ∧ s.latches.mem1.opcode = 6
    · obtain ⟨hv, hop⟩ := hstore
      have hcell : s.latches.mem1.left.toNat < 65536 :=
        (faultIn_mem1_eq_none (sl := s.latches.mem1)).mp ((faultOf_eq_none_iff s).mp hnone .mem1) hv hop
      have hfits : FitsByte s.latches.mem1.left := (hliteral .mem1 (by simp) hv hop).1
      have hleft : s.latches.mem1.left.toNat ≤ 127 := by
        obtain ⟨-, hhi⟩ := hfits
        rw [BitVec.toInt_eq_toNat_cond] at hhi
        split at hhi <;> omega
      rw [clockedMem_of_store hv hop]
      exact readByte_writeCell_outside _ _ _ (by omega)
    · rw [clockedMem_of_not_store hstore]

end Sys2Proof.Machine

/-! Runs of several steps: an instruction on its way through the latches, and the draining of an exhausted core. -/

namespace Sys2Proof.Machine

/-! ### Runs -/

section runs
variable {s t u : State} {n : Nat}

theorem runSteps_of_step (h : step s = .next u) : runSteps (n + 1) s = runSteps n u := by
  have hcore : Sys2Proof.core.step s = .next u := h
  simp only [runSteps, Host.Core.run, hcore]
  rfl

theorem runSteps_of_fault {f : Fault} (h : step s = .fault f) : runSteps (n + 1) s = .fault f := by
  have hcore : Sys2Proof.core.step s = .fault f := h
  simp only [runSteps, Host.Core.run, hcore]
  rfl

theorem step_of_runSteps (h : runSteps (n + 1) s = .next t) : ∃ u, step s = .next u ∧ runSteps n u = .next t := by
  cases hstep : step s with
  | next u => exact ⟨u, rfl, (runSteps_of_step hstep).symm.trans h⟩
  | fault f => cases (runSteps_of_fault hstep).symm.trans h
  | refused r =>
    have hcore : Sys2Proof.core.step s = .refused r := hstep
    simp only [runSteps, Host.Core.run, hcore] at h
    cases h

/-- A run without a fault goes through states without one: a HALTED core takes no step. -/
theorem RunsTo.first_step (h : RunsTo (n + 1) s t) : ∃ u, step s = .next u ∧ u.halted = false ∧ RunsTo n u t := by
  obtain ⟨hrun, ht⟩ := h
  obtain ⟨u, hstep, hrest⟩ := step_of_runSteps hrun
  refine ⟨u, hstep, ?_, hrest, ht⟩
  cases n with
  | zero => cases hrest; exact ht
  | succ n =>
    obtain ⟨v, hu, -⟩ := step_of_runSteps hrest
    exact (halted_eq_false_iff u).mpr (step_cases hu).2.1

/-- A property that every step without a fault carries from `P k` to `P (k + 1)` is carried along a run. -/
theorem RunsTo.carries {P : Nat → State → Prop} (hstep : ∀ k s t, P k s → step s = .next t → t.halted = false → P (k + 1) t)
    {k : Nat} (hs : P k s) (h : RunsTo n s t) : P (k + n) t := by
  induction n generalizing k s with
  | zero => cases h.1; exact hs
  | succ n ih =>
    obtain ⟨u, hu, hkept, hrest⟩ := RunsTo.first_step h
    have := ih (hstep k s u hs hu hkept) hrest
    rwa [Nat.add_right_comm] at this

end runs

/-! ### One latch a cycle -/

theorem next_of_lt {k : Nat} (hk : k + 1 < Stage.all.length) : Stage.all[k].next? = some Stage.all[k + 1] := by
  have hk' : k < 10 := Nat.lt_of_succ_lt_succ hk
  interval_cases k <;> rfl

theorem done_eq_false_of_valid {s : State} {st : Stage} (h : (s.slotAt st).valid = true) : s.done = false := by
  rw [Bool.eq_false_iff, ne_eq, done_iff, pipelineEmpty_iff]
  rintro ⟨-, hempty⟩
  simp [hempty st] at h

theorem completes_of_step {s t : State} (hdone : s.done = false) (hstep : step s = .next t) (ht : t.halted = false) :
    Completes s t := by
  obtain ⟨hlen, hcause, -⟩ := step_cases hstep
  exact ⟨⟨hlen, (halted_eq_false_iff s).mpr hcause, hdone⟩, hstep, ht⟩

/-- `k` cycles on, the slot `sl` is in the `k`-th latch. -/
def Arrived (sl : Slot) (k : Nat) (s : State) : Prop := ∀ hk : k < Stage.all.length, sl.Keeps (s.slotAt Stage.all[k])

theorem arrived_step {sl : Slot} (hv : sl.valid = true) (hop : sl.opcode.toNat ≤ 12) (k : Nat) (s t : State)
    (hs : Arrived sl k s) (hstep : step s = .next t) (ht : t.halted = false) : Arrived sl (k + 1) t := by
  intro hk
  have hkeeps := hs (Nat.lt_of_succ_lt hk)
  obtain ⟨hvalid, hopcode, -⟩ := id hkeeps
  obtain rfl := (completes_of_step (done_eq_false_of_valid (hvalid.trans hv)) hstep ht).eq_clocked
  refine hkeeps.trans (clocked_keeps (next_of_lt hk) fun hid => ?_)
  rw [← hid, Slot.dropped, hopcode, decide_eq_false (Nat.not_lt.mpr hop), Bool.and_false]

/-- Settles O52. -/
theorem admittedInstructionAdvancesOneStageACycle : Obligations.AdmittedInstructionAdvancesOneStageACycle := by
  intro s t n hn hv hop hrun
  have hstart : Arrived (s.slotAt .ifetch) 0 s := fun _ => .refl _
  have harrived := hrun.carries (arrived_step hv hop) hstart
  rw [Nat.zero_add] at harrived
  obtain ⟨hvalid, hkeeps⟩ := harrived hn
  exact ⟨hvalid.trans hv, hkeeps⟩

/-! ### Draining -/

/-- Fetch is exhausted at `q`, no branch is in flight to redirect it, and the first `k` latches hold no instruction. -/
structure Drained (q : Word) (k : Nat) (s : State) : Prop where
  exhausted : s.fetchExhausted = true
  pc : s.pc = q
  noBranch : ∀ st : Stage, (s.slotAt st).valid = true → isBranch (s.slotAt st).opcode = false
  empty : ∀ st : Stage, st.number.toNat < k → (s.slotAt st).valid = false

section drain
variable {q : Word} {k : Nat} {s : State}

theorem number_of_next {st n : Stage} (h : st.next? = some n) : n.number.toNat = st.number.toNat + 1 := by
  cases st <;> cases h <;> rfl

theorem pcAtFetch_of_no_branch (h : (s.slotAt .br).valid = true → isBranch (s.slotAt .br).opcode = false) : pcAtFetch s = s.pc := by
  refine if_neg fun htaken => ?_
  obtain ⟨hv, hc⟩ := Bool.and_eq_true_iff.mp htaken
  exact absurd (isBranch_of_branchTaken hc) (Bool.eq_false_iff.mp (h hv))

/-- A valid slot past IF comes from the latch before, the same instruction. -/
theorem clocked_slot_origin {n : Stage} (hn : n ≠ .ifetch) (hv : ((clocked s).slotAt n).valid = true) :
    ∃ st, st.next? = some n ∧ (s.slotAt st).Keeps ((clocked s).slotAt n) := by
  obtain ⟨st, hst⟩ := exists_prev hn
  refine ⟨st, hst, clocked_keeps hst fun hid => ?_⟩
  subst hid
  cases hst
  cases hdropped : (s.slotAt .id).dropped with
  | true =>
    rw [clocked_ia_of_dropped hdropped] at hv
    cases hv
  | false => rfl

theorem drained_clocked (h : Drained q k s) : Drained q (k + 1) (clocked s) := by
  obtain ⟨hexhausted, rfl, hbranch, hempty⟩ := h
  have hpc : pcAtFetch s = s.pc := pcAtFetch_of_no_branch (hbranch .br)
  have hadmits : fetchAdmits (clockedBackEnd s) = false := by
    simp [fetchAdmits, hpc, (fetchExhausted_iff s).mp hexhausted]
  have hkept : (clocked s).pc = s.pc := by rw [clocked_pc, pcAfterFetch_of_not_admits hadmits, clockedBackEnd_pc, hpc]
  have hif : ((clocked s).slotAt .ifetch).valid = false := (clocked_ifetch_valid s).trans hadmits
  refine ⟨by rwa [fetchExhausted_iff, hkept, clocked_progLen, ← fetchExhausted_iff], hkept, fun n hv => ?_, fun n hn => ?_⟩
  · have hne : n ≠ .ifetch := by rintro rfl; simp [hif] at hv
    obtain ⟨st, -, hvalid, hop, -⟩ := clocked_slot_origin hne hv
    rw [hop]
    exact hbranch st (hvalid.symm.trans hv)
  · by_contra hv
    have hv' : ((clocked s).slotAt n).valid = true := Bool.not_eq_false _ ▸ hv
    have hne : n ≠ .ifetch := by rintro rfl; exact hv hif
    obtain ⟨st, hst, hvalid, -⟩ := clocked_slot_origin hne hv'
    have hlt : st.number.toNat < k := by rw [number_of_next hst] at hn; omega
    rw [hvalid, hempty st hlt] at hv'
    cases hv'

theorem drained_step (k : Nat) (s t : State) (hs : Drained q k s) (hstep : step s = .next t) (ht : t.halted = false) :
    Drained q (k + 1) t := by
  obtain ⟨hdone, rfl⟩ | ⟨-, f, hf, rfl⟩ | ⟨-, -, rfl⟩ := step_outcomes hstep
  · obtain ⟨-, hempty⟩ := (done_iff t).mp hdone
    exact { hs with empty := fun st _ => (pipelineEmpty_iff t).mp hempty st }
  · exact absurd ht (by simp [State.halted, faultOf_cause hf])
  · exact drained_clocked hs

/-- Settles O53: each step empties one latch more. -/
theorem exhaustedPipelineDrainsInElevenCycles : Obligations.ExhaustedPipelineDrainsInElevenCycles := by
  intro s t hexhausted hbranch hrun
  have hstart : Drained s.pc 0 s := ⟨hexhausted, rfl, fun st hv => decide_eq_false (hbranch st hv), fun _ h => absurd h (Nat.not_lt_zero _)⟩
  have hdrained : Drained s.pc (0 + 11) t := hrun.carries drained_step hstart
  refine ⟨(done_iff t).mpr ⟨hdrained.exhausted, (pipelineEmpty_iff t).mpr fun st => hdrained.empty st ?_⟩, hdrained.pc⟩
  cases st <;> decide

end drain
end Sys2Proof.Machine

/-! An instruction alone in the pipeline, from its fetch to its commit. -/

namespace Sys2Proof.Machine

/-- The state with the slot `sl` in the latch of `st` and nothing else in flight. -/
def State.holding (s : State) (st : Stage) (sl : Slot) : State := { s with latches := Latches.empty.set st sl }

/-- A core whose program has nothing left to fetch and in which nothing has gone wrong, between two steps. -/
structure Settled (s : State) : Prop where
  length : s.progLen ≤ 65536
  fault : s.fault = .clear
  cursor : s.cursor = .ifetch
  exhausted : 4 * s.progLen ≤ s.pc.toNat

section holding
variable {s : State} {st n : Stage} {sl : Slot}

@[simp] theorem holding_slotAt_same : (s.holding st sl).slotAt st = sl := Latches.empty.get_set_same sl st

theorem holding_slotAt_other {st' : Stage} (h : st' ≠ st) : (s.holding st sl).slotAt st' = .empty := by
  have hget : (s.holding st sl).slotAt st' = Latches.empty.get st' := Latches.empty.get_set_other sl h
  rw [hget]
  cases st' <;> rfl

theorem holding_running (hs : Settled s) (hv : sl.valid = true) : (s.holding st sl).Running := by
  refine ⟨hs.length, (halted_eq_false_iff _).mpr (congrArg FaultRecord.cause hs.fault), done_eq_false_of_valid (st := st) ?_⟩
  rwa [holding_slotAt_same]

theorem holding_faultOf_eq_none (hf : faultIn st sl = none) : faultOf (s.holding st sl) = none := by
  refine (faultOf_eq_none_iff _).mpr fun st' => ?_
  by_cases h : st' = st
  · subst h
    rwa [holding_slotAt_same]
  · rw [holding_slotAt_other h]
    exact faultIn_of_bubble rfl

theorem clocked_of_exhausted (h : 4 * s.progLen ≤ (pcAtFetch s).toNat) : clocked s = clockedBackEnd s := by
  rw [clocked, clockedFetch, if_pos (by simpa using h)]

theorem predictorAtFetch_of_no_branch (h : (s.slotAt .br).valid = true → isBranch (s.slotAt .br).opcode = false) :
    predictorAtFetch s = s.predictor := by
  simp only [predictorAtFetch, ← isBranch_iff]
  exact if_neg fun ⟨_, hv, hop⟩ => by simp [h hv] at hop

/-- The one slot in flight acts in its stage and moves on. -/
theorem clocked_holding (hs : s.cursor = .ifetch) (hn : st.next? = some n)
    (hexhausted : 4 * s.progLen ≤ (pcAtFetch (s.holding st sl)).toNat) : clocked (s.holding st sl) =
      ((effectOf st (s.holding st sl)).holding n (slotAfter st (s.holding st sl))).addCycle := by
  have hprog : 4 * (s.holding st sl).progLen ≤ (pcAtFetch (s.holding st sl)).toNat := hexhausted
  rw [clocked_of_exhausted hprog, clockedBackEnd_eq]
  have hpc : st ≠ .br → pcAtFetch (s.holding st sl) = s.pc := fun h =>
    pcAtFetch_of_no_branch (by simp [holding_slotAt_other h.symm, Slot.empty])
  have htables : st ≠ .br → predictorAtFetch (s.holding st sl) = s.predictor := fun h =>
    predictorAtFetch_of_no_branch (by simp [holding_slotAt_other h.symm, Slot.empty])
  cases st <;> cases hn
  case br =>
    rw [effectOf, clockedBranch_eq]
    simp only [State.holding, slotAfter, State.addCycle, hs]
    rfl
  all_goals
    rw [hpc (by decide), htables (by decide)]
    simp only [State.holding, effectOf, slotAfter, State.addCycle, hs]
    rfl

/-- WB commits the one slot in flight, and the pipeline is empty. -/
theorem clocked_holding_wb (hs : Settled s) : clocked (s.holding .wb sl) =
    ({ clockedCommit (s.holding .wb sl) with latches := .empty }).addCycle := by
  have hpc : pcAtFetch (s.holding .wb sl) = s.pc :=
    pcAtFetch_of_no_branch (by simp [holding_slotAt_other (st := .wb) (st' := .br) (by decide), Slot.empty])
  have htables : predictorAtFetch (s.holding .wb sl) = s.predictor :=
    predictorAtFetch_of_no_branch (by simp [holding_slotAt_other (st := .wb) (st' := .br) (by decide), Slot.empty])
  rw [clocked_of_exhausted (by rw [hpc]; exact hs.exhausted), clockedBackEnd_eq, hpc, htables]
  simp only [State.holding, clockedCommit, State.addCycle, hs.cursor]
  rfl

/-! ### One step -/

/-- `k` more cycles counted. -/
def State.addCycles (s : State) (k : Nat) : State := { s with cycles := s.cycles + k }

theorem Settled.addCycles (hs : Settled s) (k : Nat) : Settled (s.addCycles k) := ⟨hs.length, hs.fault, hs.cursor, hs.exhausted⟩

theorem step_holding (hs : Settled s) (hv : sl.valid = true) (hf : faultIn st sl = none) (hn : st.next? = some n)
    (hexhausted : 4 * s.progLen ≤ (pcAtFetch (s.holding st sl)).toNat) : step (s.holding st sl) =
      .next (((effectOf st (s.holding st sl)).holding n (slotAfter st (s.holding st sl))).addCycle) := by
  rw [stepIsElevenClockedRegisters _ (holding_running hs hv) (holding_faultOf_eq_none hf), clocked_holding hs.cursor hn hexhausted]

/-- A stage that writes nothing beside the next latch. -/
theorem step_holding_pass (hs : Settled s) (hv : sl.valid = true) (hf : faultIn st sl = none) (hn : st.next? = some n)
    (hst : st ≠ .br) (heffect : effectOf st (s.holding st sl) = s.holding st sl) :
    step (s.holding st sl) = .next ((s.addCycles 1).holding n (slotAfter st (s.holding st sl))) := by
  have hpc : pcAtFetch (s.holding st sl) = s.pc :=
    pcAtFetch_of_no_branch (by simp [holding_slotAt_other hst.symm, Slot.empty])
  rw [step_holding hs hv hf hn (by rw [hpc]; exact hs.exhausted), heffect]
  rfl

theorem step_holding_fault {c : FaultCause} (hs : Settled s) (hv : sl.valid = true) (hf : faultIn st sl = some c) :
    step (s.holding st sl) = .next { s.holding st sl with fault := ⟨some c, st, sl.fpc⟩ } := by
  refine oldestFaultIsRecordedAlone _ _ (holding_running hs hv) ?_
  cases hfault : faultOf (s.holding st sl) with
  | none =>
    have h := (faultOf_eq_none_iff _).mp hfault st
    rw [holding_slotAt_same, hf] at h
    cases h
  | some f =>
    obtain ⟨st', c', hc', rfl⟩ := faultOf_eq_some hfault
    by_cases h : st' = st
    · subst h
      rw [holding_slotAt_same] at hc' ⊢
      rw [Option.some.inj (hf.symm.trans hc')]
    · rw [holding_slotAt_other h, faultIn_of_bubble rfl] at hc'
      cases hc'

/-! ### From stage to stage -/

variable {k : Nat}

theorem run_ifetch_to_rr (hs : Settled s) (hv : sl.valid = true) (hkept : sl.dropped = false) :
    runSteps (k + 3) (s.holding .ifetch sl) = runSteps k ((s.addCycles 3).holding .rr (actIA sl)) := by
  have hid : effectOf .id ((s.addCycles 1).holding .id sl) = (s.addCycles 1).holding .id sl := by
    have hlatch : ((s.addCycles 1).holding .id sl).latches.id = sl := rfl
    simp [effectOf, clockedReport, hlatch, hkept]
  have hslot : slotAfter .id ((s.addCycles 1).holding .id sl) = sl := (actID_eq sl).trans (by simp [hkept])
  calc runSteps (k + 3) (s.holding .ifetch sl)
    _ = runSteps (k + 2) ((s.addCycles 1).holding .id sl) :=
      runSteps_of_step (step_holding_pass hs hv rfl rfl (by decide) rfl)
    _ = runSteps (k + 1) ((s.addCycles 2).holding .ia sl) := by
      rw [runSteps_of_step (step_holding_pass (hs.addCycles 1) hv rfl rfl (by decide) hid), hslot]
      rfl
    _ = runSteps k ((s.addCycles 3).holding .rr (actIA sl)) :=
      runSteps_of_step (step_holding_pass (hs.addCycles 2) hv rfl rfl (by decide) rfl)

theorem run_rr_to_div (hs : Settled s) (hv : sl.valid = true) (hf : faultIn .rr sl = none) :
    runSteps (k + 3) (s.holding .rr sl) = runSteps k ((s.addCycles 3).holding .div (actMul (actAdd (actRR s.regs sl)))) := by
  have hv' : (actRR s.regs sl).valid = true := (actRR_keeps sl _).1.trans hv
  have hv'' : (actAdd (actRR s.regs sl)).valid = true := (actAdd_keeps _).1.trans hv'
  calc runSteps (k + 3) (s.holding .rr sl)
    _ = runSteps (k + 2) ((s.addCycles 1).holding .add (actRR s.regs sl)) :=
      runSteps_of_step (step_holding_pass hs hv hf rfl (by decide) rfl)
    _ = runSteps (k + 1) ((s.addCycles 2).holding .mul (actAdd (actRR s.regs sl))) :=
      runSteps_of_step (step_holding_pass (hs.addCycles 1) hv' rfl rfl (by decide) rfl)
    _ = runSteps k ((s.addCycles 3).holding .div (actMul (actAdd (actRR s.regs sl)))) :=
      runSteps_of_step (step_holding_pass (hs.addCycles 2) hv'' rfl rfl (by decide) rfl)

theorem run_div_to_br (hs : Settled s) (hv : sl.valid = true) (hf : faultIn .div sl = none) :
    runSteps (k + 1) (s.holding .div sl) = runSteps k ((s.addCycles 1).holding .br (actDiv sl)) :=
  runSteps_of_step (step_holding_pass hs hv hf rfl (by decide) rfl)

/-- The memory after the Mem1 of a slot (44_load_store.md R152). -/
def memAfter (m : Memory) (sl : Slot) : Memory := if sl.opcode = 6 then writeCell m sl.left.toNat sl.right else m

/-- The registers after the WB of a slot (40_pipeline_cycle.md R98). -/
def regsAfter (x : Vector Word 16) (sl : Slot) : Vector Word 16 :=
  if h : sl.dest.toNat < 16 then if writesReg sl.opcode then x.set sl.dest.toNat sl.right else x else x

theorem regsAfter_of_writer {x : Vector Word 16} (hop : writesReg sl.opcode = true) (hdest : sl.dest.toNat < 16) :
    regsAfter x sl = x.set sl.dest.toNat sl.right := (dif_pos hdest).trans (if_pos hop)

theorem regsAfter_of_not_writer {x : Vector Word 16} (hop : writesReg sl.opcode = false) : regsAfter x sl = x := by
  simp [regsAfter, hop]

theorem Settled.setMem (hs : Settled s) (m : Memory) : Settled (s.setMem m) := ⟨hs.length, hs.fault, hs.cursor, hs.exhausted⟩

theorem step_mem1 (hs : Settled s) (hv : sl.valid = true) (hf : faultIn .mem1 sl = none) :
    step (s.holding .mem1 sl) = .next (((s.setMem (memAfter s.mem sl)).addCycles 1).holding .mem2 sl) := by
  have hmem : clockedMem (s.holding .mem1 sl) = memAfter s.mem sl := by
    have hlatch : (s.holding .mem1 sl).latches.mem1 = sl := rfl
    simp only [clockedMem, hlatch, hv, Bool.true_and, decide_eq_true_eq]
    rfl
  have hpc : pcAtFetch (s.holding .mem1 sl) = s.pc := pcAtFetch_of_no_branch fun h => nomatch h
  rw [step_holding hs hv hf rfl (by rw [hpc]; exact hs.exhausted), effectOf, hmem]
  rfl

theorem step_wb (hs : Settled s) (hv : sl.valid = true) (hf : faultIn .wb sl = none) : step (s.holding .wb sl) = .next
    { s with regs := regsAfter s.regs sl, latches := .empty, cycles := s.cycles + 1, commits := s.commits + 1 } := by
  have hlatch : (s.holding .wb sl).latches.wb = sl := rfl
  have hregs : clockedRegs (s.holding .wb sl) = regsAfter s.regs sl := by
    simp only [clockedRegs, hlatch, hv, Bool.true_and]
    rfl
  rw [stepIsElevenClockedRegisters _ (holding_running hs hv) (holding_faultOf_eq_none hf), clocked_holding_wb hs, clockedCommit, hregs,
    holding_slotAt_same, if_pos hv]
  rfl

theorem run_mem1_to_commit (hs : Settled s) (hv : sl.valid = true) (hmem1 : faultIn .mem1 sl = none) (hmem2 : faultIn .mem2 sl = none)
    (hwb : faultIn .wb sl = none) : runSteps 3 (s.holding .mem1 sl) = .next
      { s with
        regs := regsAfter s.regs (actMem2 (memAfter s.mem sl) sl)
        mem := memAfter s.mem sl
        latches := .empty
        cycles := s.cycles + 3
        commits := s.commits + 1 } := by
  have hs' := (hs.setMem (memAfter s.mem sl)).addCycles 1
  obtain ⟨hvalid, hop, hdest, -⟩ := actMem2_keeps sl (memAfter s.mem sl)
  have hwb' : faultIn .wb (actMem2 (memAfter s.mem sl) sl) = none := by
    rw [faultIn_wb_eq_none] at hwb ⊢
    rwa [hvalid, hop, hdest]
  rw [runSteps_of_step (step_mem1 hs hv hmem1), runSteps_of_step (step_holding_pass hs' hv hmem2 rfl (by decide) rfl)]
  exact runSteps_of_step (n := 0) (step_wb (hs'.addCycles 1) (hvalid.trans hv) hwb')

/-- BR, which may send `pc` to a target past the sentinel and tell the predictor (45_branches.md R160). -/
theorem run_br_to_mem1 (hs : Settled s) (hv : sl.valid = true)
    (hexhausted : 4 * s.progLen ≤ (pcAtFetch (s.holding .br sl)).toNat) : runSteps (k + 1) (s.holding .br sl) = runSteps k
      ((({ s with
          pc := pcAtFetch (s.holding .br sl)
          pt := (predictorAtFetch (s.holding .br sl)).1
          btb := (predictorAtFetch (s.holding .br sl)).2 } : State).addCycles 1).holding .mem1 sl) := by
  have hstep := step_holding hs hv (st := .br) rfl rfl hexhausted
  rw [effectOf, clockedBranch_eq] at hstep
  exact runSteps_of_step hstep

/-- From Div to the commit of an instruction that is not a branch. -/
theorem run_div_to_commit (hs : Settled s) (hv : sl.valid = true) (hbranch : isBranch sl.opcode = false) (hdiv : faultIn .div sl = none)
    (hmem1 : faultIn .mem1 (actDiv sl) = none) (hmem2 : faultIn .mem2 (actDiv sl) = none) (hwb : faultIn .wb (actDiv sl) = none) :
    runSteps 5 (s.holding .div sl) = .next
      { s with
        regs := regsAfter s.regs (actMem2 (memAfter s.mem (actDiv sl)) (actDiv sl))
        mem := memAfter s.mem (actDiv sl)
        latches := .empty
        cycles := s.cycles + 5
        commits := s.commits + 1 } := by
  obtain ⟨hvalid, hop, -⟩ := actDiv_keeps sl
  have hv' : (actDiv sl).valid = true := hvalid.trans hv
  have hno : (((s.addCycles 1).holding .br (actDiv sl)).slotAt .br).valid = true →
      isBranch (((s.addCycles 1).holding .br (actDiv sl)).slotAt .br).opcode = false := fun _ => (congrArg isBranch hop).trans hbranch
  have hpc : pcAtFetch ((s.addCycles 1).holding .br (actDiv sl)) = s.pc := pcAtFetch_of_no_branch hno
  rw [run_div_to_br hs hv hdiv, run_br_to_mem1 (hs.addCycles 1) hv' (by rw [hpc]; exact hs.exhausted), hpc,
    predictorAtFetch_of_no_branch hno]
  exact run_mem1_to_commit (hs.addCycles 2) hv' hmem1 hmem2 hwb

end holding

/-! ### The fetch of the instruction -/

theorem slotAt_of_drained {s : State} (h : s.latches = .empty) (st : Stage) : s.slotAt st = .empty := by
  rw [State.slotAt, h]
  cases st <;> rfl

/-- A core with nothing in flight is clocked by its fetch alone. -/
theorem clocked_of_drained {s : State} (hempty : s.latches = .empty) (hc : s.cursor = .ifetch) :
    clocked s = (clockedFetch s).addCycle := by
  have hback : clockedBackEnd s = s.addCycle := by
    have hslot := slotAt_of_drained hempty
    have hpc : pcAtFetch s = s.pc := pcAtFetch_of_no_branch (by simp [hslot, Slot.empty])
    have htables : predictorAtFetch s = s.predictor := predictorAtFetch_of_no_branch (by simp [hslot, Slot.empty])
    rw [clockedBackEnd_eq, hpc, htables, State.addCycle]
    simp only [clockedRegs, clockedMem, hempty, ← hc]
    rfl
  rw [clocked, hback, clockedFetch_addCycle]

/-- The core is about to fetch the record `f`, alone: `Lone` without the opcode map. -/
structure Fetches (f : Fields) (s : State) : Prop where
  length : s.progLen ≤ 65536
  fault : s.fault = .clear
  empty : s.latches = .empty
  cursor : s.cursor = .ifetch
  fetch : s.pc.toNat < 4 * s.progLen
  last : 4 * s.progLen ≤ s.pc.toNat + 4
  word : decodeFields (fetchWord s) = f

section lone
variable {f : Fields} {s : State} {k : Nat}

theorem fetches_of_lone {i : Instr} (h : Lone i s) : Fetches i.fields s := by
  obtain ⟨hlength, hfault, hempty, hcursor, hfetch, hlast, hword⟩ := h
  exact ⟨hlength, hfault, hempty, hcursor, hfetch, hlast, (fields_of_decode hword).symm⟩

/-- The state that the fetch leaves, its instruction apart. -/
def fetched (f : Fields) (s : State) : State := { s with pc := if isBranch f.opcode then (predict s.pc s).2 else s.pc + 4 }

theorem step_fetches (h : Fetches f s) : step s = .next (((fetched f s).addCycles 1).holding .ifetch (.ofFields f s.pc)) := by
  have hslot := slotAt_of_drained h.empty
  have hopen : s.fetchExhausted = false := decide_eq_false (Nat.not_le.mpr h.fetch)
  have hhalted : s.halted = false := by rw [State.halted, h.fault]; rfl
  have hstalls : fetchStalls s = false := by simp [fetchStalls_eq, hazard, hslot, Slot.empty]
  have hadmits : fetchAdmits s = true := by simp [fetchAdmits, hopen, hstalls]
  have hnone : faultOf s = none := (faultOf_eq_none_iff s).mpr fun st => by rw [hslot]; exact faultIn_of_bubble rfl
  rw [stepIsElevenClockedRegisters s ⟨h.length, hhalted, by simp [State.done, hopen]⟩ hnone, clocked_of_drained h.empty h.cursor,
    clockedFetch_eq, slotAfterFetch_of_admits hadmits, pcAfterFetch, if_pos hadmits, h.word, hstalls, h.empty]
  rfl

theorem settled_of_fetches (h : Fetches f s) (hexhausted : 4 * s.progLen ≤ (fetched f s).pc.toNat) : Settled (fetched f s) :=
  ⟨h.length, h.fault, h.cursor, hexhausted⟩

theorem fetched_of_not_branch (hbranch : isBranch f.opcode = false) : fetched f s = { s with pc := s.pc + 4 } := by
  simp [fetched, hbranch]

/-- The word after the last one is past the sentinel. -/
theorem exhausted_of_fetches (h : Fetches f s) (hbranch : isBranch f.opcode = false) : 4 * s.progLen ≤ (fetched f s).pc.toNat := by
  have hlength := h.length
  have hfetch := h.fetch
  have hlast := h.last
  rw [fetched_of_not_branch hbranch]
  have hfour : (4 : Word).toNat = 4 := rfl
  simp only [BitVec.toNat_add, hfour]
  omega

/-- The record's slot as it reaches Div: through IA, RR, Add and Mul. -/
def executed (f : Fields) (s : State) : Slot := actMul (actAdd (actRR s.regs (actIA (.ofFields f s.pc))))

theorem executed_keeps (f : Fields) (s : State) : (Slot.ofFields f s.pc).Keeps (executed f s) :=
  (((actIA_keeps _).trans (actRR_keeps _ _)).trans (actAdd_keeps _)).trans (actMul_keeps _)

theorem run_to_div (h : Fetches f s) (hop : f.opcode.toNat ≤ 12) (hexhausted : 4 * s.progLen ≤ (fetched f s).pc.toNat)
    (hrr : faultIn .rr (actIA (.ofFields f s.pc)) = none) :
    runSteps (k + 7) s = runSteps k (((fetched f s).addCycles 7).holding .div (executed f s)) := by
  have hs := settled_of_fetches h hexhausted
  have hkept : (Slot.ofFields f s.pc).dropped = false := decide_eq_false (Nat.not_lt.mpr hop)
  rw [runSteps_of_step (n := k + 6) (step_fetches h), run_ifetch_to_rr (k := k + 3) (hs.addCycles 1) rfl hkept]
  exact run_rr_to_div (hs.addCycles 4) (actIA_valid _) hrr

/-- An instruction that is not a branch, alone from its fetch to its commit. -/
theorem run_to_commit {e : Slot} (h : Fetches f s) (hop : f.opcode.toNat ≤ 12) (hbranch : isBranch f.opcode = false)
    (hrr : faultIn .rr (actIA (.ofFields f s.pc)) = none) (hdiv : faultIn .div (executed f s) = none)
    (he : actDiv (executed f s) = e) (hmem1 : faultIn .mem1 e = none) (hmem2 : faultIn .mem2 e = none) (hwb : faultIn .wb e = none) :
    runSteps 12 s = .next
      { s with
        regs := regsAfter s.regs (actMem2 (memAfter s.mem e) e)
        mem := memAfter s.mem e
        pc := s.pc + 4
        cycles := s.cycles + 12
        commits := s.commits + 1 } := by
  subst he
  have hexhausted := exhausted_of_fetches h hbranch
  obtain ⟨hvalid, hopcode, -⟩ := executed_keeps f s
  rw [run_to_div (k := 5) h hop hexhausted hrr, run_div_to_commit ((settled_of_fetches h hexhausted).addCycles 7) hvalid
    ((congrArg isBranch hopcode).trans hbranch) hdiv hmem1 hmem2 hwb, fetched_of_not_branch hbranch, ← h.empty]
  rfl

end lone

end Sys2Proof.Machine

namespace Sys2Proof.Machine

/-! ### The net effect of every instruction run alone -/

section alone
variable {s : State}

/-- A register-writing instruction other than LD, by the slot that Div leaves. -/
theorem writesAlone_of_executed {f : Fields} {op d : Byte} {l v : Word} (h : Fetches f s) (hfop : f.opcode = op) (hop : op.toNat ≤ 4)
    (hrr : faultIn .rr (actIA (.ofFields f s.pc)) = none) (hdiv : faultIn .div (executed f s) = none)
    (he : actDiv (executed f s) = .ofFields ⟨op, d, l, v⟩ s.pc) : WritesAlone d v s := by
  intro hdest
  have hne : ∀ n : Byte, 4 < n.toNat → op ≠ n := fun n hn e => by subst e; omega
  have hbranch : isBranch f.opcode = false := by rw [hfop]; exact decide_eq_false (by omega)
  have hwrites : writesReg op = true := decide_eq_true (by omega)
  have h6 : op ≠ 6 := hne 6 (by decide)
  have h5 : op ≠ 5 := hne 5 (by decide)
  rw [run_to_commit h (by rw [hfop]; omega) hbranch hrr hdiv he (faultIn_mem1_eq_none.mpr fun _ e => absurd e h6)
    (faultIn_mem2_eq_none.mpr fun _ e => absurd e h5) (faultIn_wb_eq_none.mpr fun _ _ => hdest), actMem2_ofFields, if_neg h5]
  have hmem : memAfter s.mem (.ofFields ⟨op, d, l, v⟩ s.pc) = s.mem := if_neg h6
  have hregs : regsAfter s.regs (.ofFields ⟨op, d, l, v⟩ s.pc) = s.regs.set d.toNat v := regsAfter_of_writer hwrites hdest
  rw [hmem, hregs]

/-- The RR condition of an arithmetic instruction with both indices in range. -/
theorem faultIn_rr_of_sources {f : Fields} {p : Word} (hop : isArith f.opcode = true) (hl : f.left.toNat < 16) (hr : f.right.toNat < 16) :
    faultIn .rr (.ofFields f p) = none :=
  faultIn_rr_eq_none.mpr fun _ => ⟨fun _ => ⟨hl, hr⟩, fun h => by
    have hb : isBranch f.opcode = true := h
    simp [isBranch_of_isArith hop] at hb⟩

theorem opcode_le (i : Instr) : i.fields.opcode.toNat ≤ 12 := by cases i <;> exact Nat.le_of_ble_eq_true rfl

/-- Settles O54: the slot of each instruction as Div leaves it. -/
theorem setAndArithmeticRunAlone : Obligations.SetAndArithmeticRunAlone := by
  refine ⟨fun d l r s h => ?_, fun d l r s ha hb => ?_⟩
  · exact writesAlone_of_executed (op := 0) (fetches_of_lone h) rfl (by decide) rfl rfl rfl
  rw [← regAt_of_lt s.regs ha, ← regAt_of_lt s.regs hb, ofInt_tdiv_eq_sdiv]
  refine ⟨fun h => ?_, fun h => ?_, fun h => ?_, fun h hdivisor => ?_⟩
  · exact writesAlone_of_executed (op := 1) (fetches_of_lone h) rfl (by decide) (faultIn_rr_of_sources rfl ha hb) rfl rfl
  · exact writesAlone_of_executed (op := 2) (fetches_of_lone h) rfl (by decide) (faultIn_rr_of_sources rfl ha hb) rfl rfl
  · exact writesAlone_of_executed (op := 3) (fetches_of_lone h) rfl (by decide) (faultIn_rr_of_sources rfl ha hb) rfl rfl
  · exact writesAlone_of_executed (op := 4) (fetches_of_lone h) rfl (by decide) (faultIn_rr_of_sources rfl ha hb)
      (faultIn_div_eq_none.mpr fun _ _ => hdivisor) rfl

/-- Settles O55: Mem2 puts the cell into the slot of the LD, Mem1 writes the cell of the ST, and RET passes. -/
theorem loadStoreAndRetRunAlone : Obligations.LoadStoreAndRetRunAlone := by
  refine fun d l r s => ⟨fun h hcell hdest => ?_, fun h hcell => ?_, fun h => ?_⟩
  · have hregs : regsAfter s.regs (.ofFields ⟨5, d, l, readCell s.mem r.toNat⟩ s.pc) = s.regs.set d.toNat (readCell s.mem r.toNat) :=
      regsAfter_of_writer rfl hdest
    rw [run_to_commit (e := .ofFields (Instr.ld d l r).fields s.pc) (fetches_of_lone h) (opcode_le _) rfl rfl rfl rfl rfl
      (faultIn_mem2_eq_none.mpr fun _ _ => Nat.lt_succ_of_le hcell) (faultIn_wb_eq_none.mpr fun _ _ => hdest), ← hregs]
    rfl
  · rw [run_to_commit (e := .ofFields (Instr.st d l r).fields s.pc) (fetches_of_lone h) (opcode_le _) rfl rfl rfl rfl
      (faultIn_mem1_eq_none.mpr fun _ _ => Nat.lt_succ_of_le hcell) rfl rfl, regsAfter_of_not_writer rfl]
    rfl
  · rw [run_to_commit (e := .ofFields (Instr.ret d l r).fields s.pc) (fetches_of_lone h) (opcode_le _) rfl rfl rfl rfl rfl rfl rfl,
      regsAfter_of_not_writer rfl]
    rfl

/-! ### A branch alone -/

/-- The tables after the BR of a branch (42_branch_predictor.md R128, R129). -/
def predictorAfter (s : State) (sl : Slot) : Vector (BitVec 2) 16 × Vector Word 16 :=
  if s.predUpdate then (predUpdateAt sl.fpc (branchTaken sl.opcode sl.right) sl.left s).predictor else s.predictor

section branch
variable {sl : Slot} (hop : isBranch sl.opcode = true)
include hop

theorem opcode_ne_of_branch {n : Byte} (hn : n.toNat < 7) : sl.opcode ≠ n := fun e => by
  have hlo := ((isBranch_iff _).mp hop).1
  rw [e] at hlo
  omega

theorem actIA_of_branch : actIA sl = sl := by
  simp only [actIA, opcode_ne_of_branch hop (n := 0) (by decide), decide_false, Bool.and_false, Bool.false_eq_true, if_false]

theorem actAdd_of_branch : actAdd sl = sl := by
  simp only [actAdd, opcode_ne_of_branch hop (n := 1) (by decide), opcode_ne_of_branch hop (n := 2) (by decide), decide_false,
    Bool.and_false, Bool.false_eq_true, if_false]

theorem actMul_of_branch : actMul sl = sl := by
  simp only [actMul, opcode_ne_of_branch hop (n := 3) (by decide), decide_false, Bool.and_false, Bool.false_eq_true, if_false]

theorem actDiv_of_branch : actDiv sl = sl := by
  simp only [actDiv, opcode_ne_of_branch hop (n := 4) (by decide), decide_false, Bool.and_false, Bool.false_eq_true, if_false]

theorem actMem2_of_branch (m : Memory) : actMem2 m sl = sl := by
  simp only [actMem2, opcode_ne_of_branch hop (n := 5) (by decide), decide_false, Bool.and_false, Bool.false_eq_true, if_false]

theorem memAfter_of_branch (m : Memory) : memAfter m sl = m := if_neg (opcode_ne_of_branch hop (by decide))

theorem writesReg_of_branch : writesReg sl.opcode = false := by
  have hlo := ((isBranch_iff _).mp hop).1
  exact decide_eq_false (by omega)

/-- A branch can fault in RR alone (60_exceptions.md R181). -/
theorem faultIn_of_branch {st : Stage} (hst : st ≠ .rr) : faultIn st sl = none := by
  cases st with
  | ifetch | id | ia | add | mul | br => rfl
  | rr => exact absurd rfl hst
  | div => exact faultIn_div_eq_none.mpr fun _ h => absurd h (opcode_ne_of_branch hop (by decide))
  | mem1 => exact faultIn_mem1_eq_none.mpr fun _ h => absurd h (opcode_ne_of_branch hop (by decide))
  | mem2 => exact faultIn_mem2_eq_none.mpr fun _ h => absurd h (opcode_ne_of_branch hop (by decide))
  | wb => exact faultIn_wb_eq_none.mpr fun _ h => absurd h (Bool.eq_false_iff.mp (writesReg_of_branch hop))

/-- From Div to the commit of a branch with its next `pc` past the sentinel. -/
theorem run_div_to_commit_of_branch (hs : Settled s) (hv : sl.valid = true)
    (hexhausted : 4 * s.progLen ≤ (if branchTaken sl.opcode sl.right then sl.left else s.pc).toNat) :
    runSteps 5 (s.holding .div sl) = .next
      { s with
        pc := if branchTaken sl.opcode sl.right then sl.left else s.pc
        latches := .empty
        pt := (predictorAfter s sl).1
        btb := (predictorAfter s sl).2
        cycles := s.cycles + 5
        commits := s.commits + 1 } := by
  have hpc : pcAtFetch ((s.addCycles 1).holding .br sl) = if branchTaken sl.opcode sl.right then sl.left else s.pc := by
    have hlatch : ((s.addCycles 1).holding .br sl).latches.br = sl := rfl
    rw [pcAtFetch, hlatch, hv, Bool.true_and]
    rfl
  have htables : predictorAtFetch ((s.addCycles 1).holding .br sl) = predictorAfter s sl := by
    have hsame : ((s.addCycles 1).holding .br sl).predictor = s.predictor := rfl
    have hupdate : ((s.addCycles 1).holding .br sl).predUpdate = s.predUpdate := rfl
    simp only [predictorAtFetch, predictorAfter, holding_slotAt_same, hv, ← isBranch_iff, hop, and_true, hsame, hupdate,
      predUpdateAt_predictor_congr _ _ _ hsame]
  rw [run_div_to_br hs hv (faultIn_of_branch hop (by decide)), actDiv_of_branch hop,
    run_br_to_mem1 (hs.addCycles 1) hv (by rw [hpc]; exact hexhausted), hpc, htables, run_mem1_to_commit _ hv
    (faultIn_of_branch hop (by decide)) (faultIn_of_branch hop (by decide)) (faultIn_of_branch hop (by decide)),
    memAfter_of_branch hop, actMem2_of_branch hop, regsAfter_of_not_writer (writesReg_of_branch hop)]
  · rfl
  · exact ⟨hs.length, hs.fault, hs.cursor, hexhausted⟩

end branch

theorem executed_of_branch {f : Fields} (hf : isBranch f.opcode = true) (hdest : f.dest.toNat < 16) :
    executed f s = .ofFields { f with right := s.regs[f.dest.toNat] } s.pc := by
  have harith : isArith f.opcode ≠ true := fun h => by simp [isBranch_of_isArith h] at hf
  have hrr : actRR s.regs (.ofFields f s.pc) = .ofFields { f with right := s.regs[f.dest.toNat] } s.pc := by
    rw [actRR_ofFields, if_neg harith, if_pos hf, regAt_of_lt _ hdest]
  rw [executed, actIA_of_branch (sl := .ofFields f s.pc) hf, hrr,
    actAdd_of_branch (sl := .ofFields { f with right := s.regs[f.dest.toNat] } s.pc) hf,
    actMul_of_branch (sl := .ofFields { f with right := s.regs[f.dest.toNat] } s.pc) hf]

/-- Telling the predictor, on any state with the tables and the parameter of `s` (42_branch_predictor.md R128, R129). -/
theorem told_eq_predictorAfter {t : State} (sl : Slot) (h : t.predictor = s.predictor) (hupdate : t.predUpdate = s.predUpdate) :
    (if t.predUpdate then predUpdateAt sl.fpc (branchTaken sl.opcode sl.right) sl.left t else t) =
      { t with pt := (predictorAfter s sl).1, btb := (predictorAfter s sl).2 } := by
  rw [predictorAfter, ← hupdate]
  split
  · rw [← predUpdateAt_predictor_congr _ _ _ h]
    exact predUpdateAt_keeps_rest _ _ t _
  · rw [← h]
    rfl

/-- A branch alone, by its opcode number: RR takes the tested register into its slot, and BR acts on it. -/
theorem branchAlone {mk : Byte → Word → Word → Instr} {op : Byte} {c : Word → Bool}
    (hfields : ∀ d l r, (mk d l r).fields = ⟨op, d, l, r⟩) (hop : isBranch op = true) (hc : ∀ v, branchTaken op v = c v) :
    BranchAlone mk c := by
  intro d l r s hdest hlone hpredicted htarget
  have h : Fetches ⟨op, d, l, r⟩ s := hfields d l r ▸ fetches_of_lone hlone
  have hfetched : fetched ⟨op, d, l, r⟩ s = { s with pc := (predict s.pc s).2 } := by simp [fetched, hop]
  have hexhausted : 4 * s.progLen ≤ (fetched ⟨op, d, l, r⟩ s).pc.toNat := by rw [hfetched]; exact hpredicted
  have hs := (settled_of_fetches h hexhausted).addCycles 7
  have hle : op.toNat ≤ 12 := Nat.le_succ_of_le ((isBranch_iff op).mp hop).2
  have hrr : faultIn .rr (actIA (.ofFields ⟨op, d, l, r⟩ s.pc)) = none := by
    rw [actIA_of_branch (sl := .ofFields ⟨op, d, l, r⟩ s.pc) hop, faultIn_rr_eq_none]
    have harith : isArith op ≠ true := fun ha => by simp [isBranch_of_isArith ha] at hop
    exact fun _ => ⟨fun ha => absurd ha harith, fun _ => hdest⟩
  have hpast : 4 * s.progLen ≤ (if branchTaken op s.regs[d.toNat] then l else (fetched ⟨op, d, l, r⟩ s).pc).toNat := by
    rw [hc]
    split
    next htaken => exact htarget htaken
    next => exact hexhausted
  rw [run_to_div (k := 5) h hle hexhausted hrr, executed_of_branch (f := ⟨op, d, l, r⟩) hop hdest,
    run_div_to_commit_of_branch (sl := .ofFields ⟨op, d, l, s.regs[d.toNat]⟩ s.pc) hop hs rfl hpast, hfetched]
  have htold := told_eq_predictorAfter (s := ({ s with pc := (predict s.pc s).2 } : State).addCycles 7)
    (t := { s with
      pc := if branchTaken op s.regs[d.toNat] then l else (predict s.pc s).2
      cycles := s.cycles + 12
      commits := s.commits + 1 }) (.ofFields ⟨op, d, l, s.regs[d.toNat]⟩ s.pc) rfl rfl
  rw [← hc]
  refine congrArg Host.Outcome.next (Eq.trans ?_ htold.symm)
  rw [← h.empty]
  rfl

/-- Settles O56: the five conditions by opcode number; zero is zero in either reading. -/
theorem branchesRunAlone : Obligations.BranchesRunAlone := by
  refine ⟨branchAlone (op := 7) (fun _ _ _ => rfl) rfl fun v => ?_, branchAlone (op := 8) (fun _ _ _ => rfl) rfl fun _ => rfl,
    branchAlone (op := 9) (fun _ _ _ => rfl) rfl fun _ => rfl, branchAlone (op := 10) (fun _ _ _ => rfl) rfl fun _ => rfl,
    branchAlone (op := 11) (fun _ _ _ => rfl) rfl fun _ => rfl⟩
  exact decide_eq_decide.mpr (by rw [← BitVec.toInt_inj]; rfl)

/-- Settles O57: the DIV reaches Div with the zero after seven cycles. -/
theorem divisionByZeroHaltsInTheEighthCycle : Obligations.DivisionByZeroHaltsInTheEighthCycle := by
  intro d l r s ha hb hlone hdivisor
  rw [← regAt_of_lt s.regs hb] at hdivisor
  have h := fetches_of_lone hlone
  have hexhausted := exhausted_of_fetches h rfl
  have hs := (settled_of_fetches h hexhausted).addCycles 7
  have hfault : faultIn .div (executed (Instr.div d l r).fields s) = some .divZero :=
    faultIn_div_eq_some.mpr ⟨rfl, rfl, hdivisor, rfl⟩
  have hstep := step_holding_fault hs (executed_keeps _ s).1 hfault
  have hrun : ∀ k, runSteps (k + 8) s = runSteps k _ := fun k =>
    (run_to_div (k := k + 1) h (opcode_le _) hexhausted (faultIn_rr_of_sources rfl ha hb)).trans (runSteps_of_step hstep)
  refine ⟨⟨_, hrun 0, ?_, rfl, rfl, rfl, rfl⟩, fun n hn => ?_⟩
  · rw [(executed_keeps _ s).2.2.2]
    rfl
  · obtain ⟨m, rfl⟩ := Nat.exists_eq_add_of_le' hn
    exact (hrun (m + 1)).trans (runSteps_of_fault (haltedCoreTakesNoStep _ _ h.length rfl))

/-- Settles O58: ID drops the slot, and the pipeline is empty. -/
theorem illegalWordRunAloneIsDropped : Obligations.IllegalWordRunAloneIsDropped := by
  intro s hlength hfault hempty hcursor hfetch hlast hop
  obtain ⟨f, hf⟩ : ∃ f, decodeFields (fetchWord s) = f := ⟨_, rfl⟩
  rw [hf] at hop
  have h : Fetches f s := ⟨hlength, hfault, hempty, hcursor, hfetch, hlast, hf⟩
  have hbranch : isBranch f.opcode = false := decide_eq_false (by omega)
  have hexhausted := exhausted_of_fetches h hbranch
  have hs := settled_of_fetches h hexhausted
  have hdropped : (Slot.ofFields f s.pc).dropped = true := decide_eq_true hop
  have hslot : slotAfter .id (((fetched f s).addCycles 2).holding .id (.ofFields f s.pc)) = .empty := (actID_eq _).trans (if_pos hdropped)
  have hid : step (((fetched f s).addCycles 2).holding .id (.ofFields f s.pc)) = .next
      { s with pc := s.pc + 4, cycles := s.cycles + 3, illegal := true, illegalCount := s.illegalCount + 1 } := by
    have hlatch : (((fetched f s).addCycles 2).holding .id (.ofFields f s.pc)).latches.id = .ofFields f s.pc := rfl
    rw [step_holding (st := .id) (n := .ia) (hs.addCycles 2) rfl rfl rfl hexhausted, hslot, effectOf, clockedReport, hlatch, hdropped,
      fetched_of_not_branch hbranch]
    simp only [State.holding, State.addCycles, hempty]
    rfl
  have hrun : ∀ k, runSteps (k + 3) s = runSteps k
      { s with pc := s.pc + 4, cycles := s.cycles + 3, illegal := true, illegalCount := s.illegalCount + 1 } := fun k => by
    rw [runSteps_of_step (step_fetches h), runSteps_of_step (step_holding_pass (hs.addCycles 1) rfl rfl rfl (by decide) rfl)]
    exact runSteps_of_step hid
  have hhalted : s.halted = false := (halted_eq_false_iff s).mpr (congrArg FaultRecord.cause hfault)
  have hdone : ({ s with pc := s.pc + 4, cycles := s.cycles + 3, illegal := true, illegalCount := s.illegalCount + 1 } : State).done
      = true := by
    refine (done_iff _).mpr ⟨decide_eq_true ?_, (pipelineEmpty_iff _).mpr fun st => ?_⟩
    · rw [fetched_of_not_branch hbranch] at hexhausted
      exact hexhausted
    · simp only [State.slotAt, hempty]
      cases st <;> rfl
  have hhold : step { s with pc := s.pc + 4, cycles := s.cycles + 3, illegal := true, illegalCount := s.illegalCount + 1 } = _ :=
    doneCoreHoldsAllState _ hlength hhalted hdone
  exact ⟨hrun 0, (hrun 1).trans ((runSteps_of_step hhold).trans (hrun 0).symm)⟩

end alone

end Sys2Proof.Machine

/-! The opcode map, the memory accesses, division, the reset table, and the step by the instruction it fetches. -/

namespace Sys2Proof.Machine

/-! ### The opcode map -/

theorem instr?_fields (i : Instr) : i.fields.instr? = some i := by cases i <;> rfl

theorem decode_of_instr? {w : Word} {i : Instr} (h : (decodeFields w).instr? = some i) : decode w = .ok i := by rw [decode, h]

/-- A record with an opcode outside the set names no instruction (30_encoding.md R75). -/
theorem instr?_of_opcode_gt {f : Fields} (h : 12 < f.opcode.toNat) : f.instr? = none := by
  cases hi : f.instr? with
  | none => rfl
  | some i =>
    have hle := opcode_le i
    rw [fields_of_instr hi] at hle
    omega

/-- Settles O2: the record survives its word, and the map and its inverse agree on it. -/
theorem everyInstructionRoundTrips : Obligations.EveryInstructionRoundTrips := by
  refine ⟨fun i hi => decode_of_instr? ?_, fun w i hw => ?_⟩
  · rw [encode, decodeFields_encodeFields_of_encodable (f := i.fields) hi, instr?_fields]
  · have hfields := fields_of_decode hw
    have hleft : i.left = sext8 (w.extractLsb' 8 8) := congrArg Fields.left hfields
    have hright : i.right = sext8 (w.extractLsb' 0 8) := congrArg Fields.right hfields
    exact ⟨⟨hleft ▸ fitsByte_sext8 _, hright ▸ fitsByte_sext8 _⟩, by rw [encode, hfields, encodeFields_decodeFields]⟩

/-- Settles O3: the map names an instruction for each number up to 12 and none above. -/
theorem illegalOpcodesAreRejectedByNumber : Obligations.IllegalOpcodesAreRejectedByNumber := by
  refine fun w => ⟨fun hle => ?_, fun hgt => ?_⟩
  · obtain ⟨i, hi⟩ := decode_of_opcode_le (w := w) hle
    exact ⟨i, hi, congrArg Fields.opcode (fields_of_decode hi)⟩
  · rw [decode, instr?_of_opcode_gt (f := decodeFields w) hgt]
    rfl

/-- Settles O4: fixed words, decoded by evaluation. -/
theorem wordsOfTheSpecDecode : Obligations.WordsOfTheSpecDecode := by
  unfold Obligations.WordsOfTheSpecDecode
  decide

/-! ### Memory -/

/-- Settles O5, by the laws of a cell written. -/
theorem cellWrittenReadsBackAlone : Obligations.CellWrittenReadsBackAlone := by
  refine fun a v s => ⟨fun hle => ?_, fun hgt => ⟨memRead_of_ge s hgt, memWrite_of_ge v s hgt⟩⟩
  have hlt : a.toNat < 65536 := Nat.lt_succ_of_le hle
  exact ⟨memRead_of_lt s hlt, _, memWrite_of_lt v s hlt, rfl, fun hwf => ⟨readCell_writeCell_same hwf v hlt, wf_writeCell hwf v hlt⟩,
    fun _ => readByte_writeCell_outside _ _ _, fun _ => readCell_writeCell_other _ _⟩

theorem wfFrom_cons {lo a : Nat} {b : Byte} {m : Memory} : Memory.wfFrom lo ((a, b) :: m) = true ↔
    lo ≤ a ∧ a < Config.memBytes ∧ b ≠ 0 ∧ Memory.wfFrom (a + 1) m = true := by
  simp [Memory.wfFrom, and_assoc]

theorem readByte_head (a : Nat) (b : Byte) (m : Memory) : readByte ((a, b) :: m) a = b := if_pos rfl

/-- No canonical memory that begins after `a` reads like one that begins with an entry at `a`. -/
theorem readByte_ne_of_below {lo a : Nat} {b : Byte} {m m' : Memory} (hb : b ≠ 0) (hm' : Memory.wfFrom lo m' = true) (ha : a < lo) :
    readByte ((a, b) :: m) a ≠ readByte m' a := by
  rwa [readByte_head, readByte_below hm' ha]

/-- The first entry is at the lowest byte that does not read 0, so it is the same in both, and the rest reads the same. -/
theorem eq_of_readByte_eq : ∀ {m m' : Memory} {lo : Nat}, Memory.wfFrom lo m = true → Memory.wfFrom lo m' = true →
    (∀ a, readByte m a = readByte m' a) → m = m'
  | [], [], _, _, _, _ => rfl
  | [], (a, b) :: m', _, _, hm', h => by
    obtain ⟨-, -, hb, -⟩ := wfFrom_cons.mp hm'
    exact absurd (h a).symm (readByte_ne_of_below (lo := a + 1) hb rfl a.lt_succ_self)
  | (a, b) :: m, [], _, hm, _, h => by
    obtain ⟨-, -, hb, -⟩ := wfFrom_cons.mp hm
    exact absurd (h a) (readByte_ne_of_below (lo := a + 1) hb rfl a.lt_succ_self)
  | (a, b) :: m, (a', b') :: m', lo, hm, hm', h => by
    obtain ⟨-, hbytes, hb, htail⟩ := wfFrom_cons.mp hm
    obtain ⟨-, hbytes', hb', htail'⟩ := wfFrom_cons.mp hm'
    obtain hlt | rfl | hgt := Nat.lt_trichotomy a a'
    · exact absurd (h a) (readByte_ne_of_below hb (wfFrom_cons.mpr ⟨le_rfl, hbytes', hb', htail'⟩) hlt)
    · have hhead := h a
      rw [readByte_head, readByte_head] at hhead
      have hrest : ∀ k, readByte m k = readByte m' k := fun k => by
        by_cases hk : a = k
        · subst hk
          rw [readByte_below htail a.lt_succ_self, readByte_below htail' a.lt_succ_self]
        · simpa [readByte, hk] using h k
      rw [hhead, eq_of_readByte_eq htail htail' hrest]
    · exact absurd (h a').symm (readByte_ne_of_below hb' (wfFrom_cons.mpr ⟨le_rfl, hbytes, hb, htail⟩) hgt)

/-- Settles O6, by induction on the two lists. -/
theorem canonicalMemoriesAreEqualIfReadEqual : Obligations.CanonicalMemoriesAreEqualIfReadEqual :=
  fun _ _ hm hm' h => eq_of_readByte_eq hm hm' h

/-! ### Division -/

/-- Settles O7: the division wraps in the one case of R143. -/
theorem divisionRoundsTowardZero : Obligations.DivisionRoundsTowardZero := by
  refine fun a b => ⟨fun hzero => by rw [hzero, divWords_zero], fun hne hwrap => ?_, fun ha hb => ?_⟩
  · refine ⟨_, divWords_of_ne_zero a hne, BitVec.toInt_sdiv_of_ne_or_ne a b ?_⟩
    by_contra hboth
    push Not at hboth
    obtain ⟨rfl, rfl⟩ := hboth
    exact hwrap ⟨rfl, rfl⟩
  · have ha' : a = 0x80000000 := BitVec.toInt_inj.mp ha
    have hb' : b = 0xFFFFFFFF := BitVec.toInt_inj.mp hb
    subst ha' hb'
    rfl

/-! ### The predictor's index, and reset -/

/-- Settles O18: bits 5 to 2 are the quotient by 4, modulo 16. -/
theorem predictorIndexIsWordAddressMod16 : Obligations.PredictorIndexIsWordAddressMod16 := by
  intro a
  rw [predIndex, BitVec.extractLsb'_toNat, Nat.shiftRight_eq_div_pow]

/-- Settles O22. -/
theorem resetTable : Obligations.ResetTable := by
  refine fun image n u => ⟨fun k hk => ⟨?_, ?_, ?_⟩, rfl, rfl, rfl, fun st => ?_, rfl, rfl, rfl, rfl, rfl, rfl, rfl, rfl⟩
  · exact Vector.getElem_replicate hk
  · exact Vector.getElem_replicate hk
  · exact Vector.getElem_replicate hk
  · cases st <;> rfl

/-- Settles O23. -/
theorem resetKeepsMemoryAndLength : Obligations.ResetKeepsMemoryAndLength := fun _ => ⟨rfl, rfl, rfl, rfl⟩

/-! ### The step by the instruction it fetches -/

section fetch
variable {s : State} {i : Instr}

/-- The action of the fetched instruction is the clocked fetch. -/
theorem exec_fetched (hc : s.cursor = .ifetch) (hempty : (s.slotAt .ifetch).valid = false) (hopen : s.fetchExhausted = false)
    (hw : decode (fetchWord s) = .ok i) : exec i s = .next (clockedFetch s) := by
  rw [exec_eq_actionOf, fields_of_decode hw, ← fetchStage_clocks hc hempty, fetchStage_eq hempty, hopen]
  rfl

theorem wellFormed_of_decode {w : Word} (h : decode w = .ok i) : i.WellFormed := (everyInstructionRoundTrips.2 w i h).1

end fetch

/-- Settles O25: the fetch faults nowhere, so the step ends as a completed cycle. -/
theorem stepRunsTheFetchedInstruction : Obligations.StepRunsTheFetchedInstruction := by
  intro s t i hrunning hback ht hopen hw
  refine ⟨wellFormed_of_decode hw, _, exec_fetched rfl rfl hopen hw, ?_⟩
  obtain ⟨u, hstep, htraversal, -⟩ := step_of_running hrunning
  have hu : traversal s = .next (clockedFetch (advanceIF t)) := by
    rw [traversal, hback, thenUnlessHalted_next _ ht, fetchStage_clocks rfl rfl]
  cases htraversal.symm.trans hu
  have hkept : (clockedFetch (advanceIF t)).halted = false := (clockedFetch_halted _).trans ht
  rw [hstep, endCycle, if_neg (by simp [hkept])]
  rfl

/-- Settles O26: with nothing in flight only the fetch is clocked, and it is open, for the core would be DONE. -/
theorem drainedStepRunsTheWordAtPc : Obligations.DrainedStepRunsTheWordAtPc := by
  intro s i hrunning hempty hc hw
  have hbubble : ∀ st : Stage, (s.slotAt st).valid = false := fun st => by rw [slotAt_of_drained hempty]; rfl
  have hopen : s.fetchExhausted = false := Bool.eq_false_iff.mpr fun hexhausted => by
    have hdone := (done_iff s).mpr ⟨hexhausted, (pipelineEmpty_iff s).mpr hbubble⟩
    rw [hrunning.2.2] at hdone
    cases hdone
  have hnone : faultOf s = none := (faultOf_eq_none_iff s).mpr fun st => faultIn_of_bubble (hbubble st)
  exact ⟨_, exec_fetched hc (hbubble _) hopen hw, by
    rw [stepIsElevenClockedRegisters s hrunning hnone, clocked_of_drained hempty hc]; rfl⟩

end Sys2Proof.Machine

/-! Every instruction in every stage: the stages in which an opcode has an action of its own (40_pipeline_cycle.md R96), and that action. -/

namespace Sys2Proof.Machine

/-- Whether the stage does more than pass on a slot with this opcode (40_pipeline_cycle.md R96). -/
def actsIn (op : Byte) : Stage → Bool
  | .ifetch | .wb => true
  | .id => decide (12 < op.toNat)
  | .ia => decide (op = 0)
  | .rr => isArith op || isBranch op
  | .add => decide (op = 1) || decide (op = 2)
  | .mul => decide (op = 3)
  | .div => decide (op = 4)
  | .br => isBranch op
  | .mem1 => decide (op = 6)
  | .mem2 => decide (op = 5)

section stages
variable {s : State} {i : Instr} {op d : Byte} {l r : Word}

/-! The row of each stage, the cursor given. -/

section rows
variable (f : Fields)

theorem actionOf_at_ia (hc : s.cursor = .ia) : actionOf f s =
    if f.opcode = 0 then passFields { f with right := f.left } s else passFields f s := by simp only [actionOf, hc]

theorem actionOf_at_rr (hc : s.cursor = .rr) : actionOf f s =
    if isArith f.opcode then
      orFault (readSources f.left f.right s) s fun v => passFields { f with left := v.1, right := v.2 } s
    else if isBranch f.opcode then orFault (readTested f.dest s) s fun v => passFields { f with right := v } s
    else passFields f s := by simp only [actionOf, hc]

theorem actionOf_at_add (hc : s.cursor = .add) : actionOf f s =
    if f.opcode = 1 then passFields { f with right := f.left + f.right } s
    else if f.opcode = 2 then passFields { f with right := f.left - f.right } s
    else passFields f s := by simp only [actionOf, hc]

theorem actionOf_at_mul (hc : s.cursor = .mul) : actionOf f s =
    if f.opcode = 3 then passFields { f with right := f.left * f.right } s else passFields f s := by simp only [actionOf, hc]

theorem actionOf_at_div (hc : s.cursor = .div) : actionOf f s =
    if f.opcode = 4 then orFault (divWords f.left f.right) s fun q => passFields { f with right := q } s else passFields f s := by
  simp only [actionOf, hc]

theorem actionOf_at_br (hc : s.cursor = .br) : actionOf f s =
    passFields f (if isBranch f.opcode then resolve (branchTaken f.opcode f.right) f.left s else s) := by simp only [actionOf, hc]

theorem actionOf_at_mem1 (hc : s.cursor = .mem1) : actionOf f s =
    if f.opcode = 6 then orFault (memWrite f.left f.right s) s fun t => passFields f t else passFields f s := by
  simp only [actionOf, hc]

theorem actionOf_at_mem2 (hc : s.cursor = .mem2) : actionOf f s =
    if f.opcode = 5 then orFault (memRead f.right s) s fun v => passFields { f with right := v } s else passFields f s := by
  simp only [actionOf, hc]

theorem actionOf_at_wb (hc : s.cursor = .wb) : actionOf f s =
    if writesReg f.opcode then commitResult f.dest f.right s else s.addCommit := by simp only [actionOf, hc]

end rows

/-! ### Moving on unchanged -/

theorem actionOf_of_idle {f : Fields} (h : actsIn f.opcode s.cursor = false) : actionOf f s = passFields f s := by
  cases hc : s.cursor <;> simp_all [actsIn, actionOf]

theorem passFields_eq {f : Fields} {n : Stage} (hn : s.cursor.next? = some n) :
    passFields f s = movesTo n f.opcode f.dest f.left f.right s := deliver_eq _ hn

theorem exec_fields {f : Fields} (hf : i.fields = f) : exec i s = .next (actionOf f s) := hf ▸ exec_eq_actionOf i s

theorem movesUnchanged_of_idle {acting : List Stage} (hf : i.fields = ⟨op, d, l, r⟩)
    (h : ∀ st ∈ Stage.all, st ∉ acting → st ≠ .wb → actsIn op st = false) : MovesUnchanged i op d l r s acting := by
  intro n hn hnot
  have hwb : s.cursor ≠ .wb := fun hc => by rw [hc] at hn; cases hn
  have hall : s.cursor ∈ Stage.all := by cases s.cursor <;> decide
  rw [exec_fields hf, actionOf_of_idle (f := ⟨op, d, l, r⟩) (h _ hall hnot hwb), passFields_eq hn]

/-! ### IF -/

theorem exec_admits (hf : i.fields = ⟨op, d, l, r⟩) (hbranch : isBranch op = false) (hmemory : isMemory op = false)
    (hc : s.cursor = .ifetch) : exec i s = .next (admits op d l r s) := by
  rw [exec_fields hf, actionOf_ifetch _ hc, hbranch, hmemory]
  rfl

theorem stallsOrAdmits_of_memory (hf : i.fields = ⟨op, d, l, r⟩) (hbranch : isBranch op = false) (hmemory : isMemory op = true) :
    StallsOrAdmits i op d l r s := by
  intro hc
  rw [exec_fields hf, actionOf_ifetch _ hc, hbranch, hmemory, Bool.true_and]
  refine ⟨fun h => ?_, fun h => ?_⟩
  · rw [(hazard_iff l s).mpr h]
    rfl
  · rw [Bool.eq_false_iff.mpr fun hstall => h ((hazard_iff l s).mp hstall)]
    rfl

/-! ### RR and WB -/

theorem readsSources_of_arith (hf : i.fields = ⟨op, d, l, r⟩) (hop : isArith op = true) : ReadsSources i op d l r s := by
  intro hc
  rw [exec_fields hf, actionOf_at_rr _ hc, if_pos hop]
  refine ⟨fun ha hb => ?_, fun hout => ?_⟩
  · rw [readSources_of_lt s ha hb, orFault_ok, passFields_eq (n := .add) (by rw [hc]; rfl)]
  · rw [← toNat_lt_16_iff, ← toNat_lt_16_iff] at hout
    have hindex : 16 ≤ l.toNat ∨ 16 ≤ r.toNat := by omega
    rw [readSources_of_ge s hindex, orFault_error]
    rfl

theorem writesBack_of_writer (hf : i.fields = ⟨op, d, l, r⟩) (hop : writesReg op = true) : WritesBack i d r s := by
  intro hc
  rw [exec_fields hf, actionOf_at_wb _ hc, if_pos hop]
  refine ⟨fun hd => ?_, fun hd => ?_⟩
  · rw [commitResult_of_lt _ _ hd]
    rfl
  · rw [commitResult_of_ge _ _ hd]
    rfl

theorem exec_commits (hf : i.fields = ⟨op, d, l, r⟩) (hop : writesReg op = false) (hc : s.cursor = .wb) :
    exec i s = .next { s with commits := s.commits + 1 } := by
  rw [exec_fields hf, actionOf_at_wb _ hc, hop]
  rfl

end stages

/-! ### The instructions -/

/-- Settles O8: SET acts in IA and WB. -/
theorem setInEveryStage : Obligations.SetInEveryStage := by
  refine fun d l r s => ⟨exec_admits rfl rfl rfl, fun hc => ?_, writesBack_of_writer rfl rfl, movesUnchanged_of_idle rfl (by decide)⟩
  have hcopy : exec (.set d l r) s = .next (passFields ⟨0, d, l, l⟩ s) :=
    (exec_eq_actionOf _ s).trans (congrArg _ (actionOf_at_ia _ hc))
  rw [hcopy, passFields_eq (n := .rr) (by rw [hc]; rfl)]

theorem isMemory_of_isArith {op : Byte} (h : isArith op = true) : isMemory op = false := by
  obtain ⟨hlo, hhi⟩ := of_decide_eq_true h
  exact decide_eq_false (by omega)

theorem writesReg_of_isArith {op : Byte} (h : isArith op = true) : writesReg op = true :=
  decide_eq_true (Nat.le_succ_of_le (of_decide_eq_true h).2)

/-- An arithmetic instruction by opcode number, its execute stage's action given. -/
theorem arithStages_of_execute {mk : Byte → Word → Word → Instr} {op : Byte} {st : Stage} {f : Word → Word → Word}
    (hfields : ∀ d l r, (mk d l r).fields = ⟨op, d, l, r⟩) (hop : isArith op = true)
    (hidle : ∀ st' ∈ Stage.all, st' ∉ [.ifetch, .rr, st] → st' ≠ .wb → actsIn op st' = false)
    (hexecute : ∀ d l r s, s.cursor = st → actionOf ⟨op, d, l, r⟩ s = passFields ⟨op, d, l, f l r⟩ s) : ArithStages mk op st f := by
  intro d l r s
  refine ⟨exec_admits (hfields d l r) (isBranch_of_isArith hop) (isMemory_of_isArith hop), readsSources_of_arith (hfields d l r) hop,
    fun n hc hn => ?_, writesBack_of_writer (hfields d l r) (writesReg_of_isArith hop), movesUnchanged_of_idle (hfields d l r) hidle⟩
  rw [exec_fields (hfields d l r), hexecute d l r s hc, passFields_eq (by rw [hc]; exact hn)]

/-! The low 32 bits of an exact result (43_set_arith.md R136 to R138). -/

theorem ofInt_add_toInt (a b : Word) : BitVec.ofInt 32 (a.toInt + b.toInt) = a + b := by
  rw [← BitVec.toInt_inj, BitVec.toInt_ofInt, BitVec.toInt_add]

theorem ofInt_sub_toInt (a b : Word) : BitVec.ofInt 32 (a.toInt - b.toInt) = a - b := by
  rw [← BitVec.toInt_inj, BitVec.toInt_ofInt, BitVec.toInt_sub]

theorem ofInt_mul_toInt (a b : Word) : BitVec.ofInt 32 (a.toInt * b.toInt) = a * b := by
  rw [← BitVec.toInt_inj, BitVec.toInt_ofInt, BitVec.toInt_mul]

/-- Settles O9: the three by opcode number, the exact result cut to a word. -/
theorem addSubMulInEveryStage : Obligations.AddSubMulInEveryStage := by
  refine ⟨arithStages_of_execute (fun _ _ _ => rfl) rfl (by decide) fun d l r s hc => ?_,
    arithStages_of_execute (fun _ _ _ => rfl) rfl (by decide) fun d l r s hc => ?_,
    arithStages_of_execute (fun _ _ _ => rfl) rfl (by decide) fun d l r s hc => ?_⟩
  · rw [actionOf_at_add _ hc, ofInt_add_toInt]
    rfl
  · rw [actionOf_at_add _ hc, ofInt_sub_toInt]
    rfl
  · rw [actionOf_at_mul _ hc, ofInt_mul_toInt]
    rfl

/-- Settles O10: the Div stage divides or raises DIV_ZERO. -/
theorem divInEveryStage : Obligations.DivInEveryStage := by
  refine fun d l r s => ⟨exec_admits rfl rfl rfl, readsSources_of_arith rfl rfl, fun hc => ?_, writesBack_of_writer rfl rfl,
    movesUnchanged_of_idle rfl (by decide)⟩
  have hdiv : exec (.div d l r) s = .next (orFault (divWords l r) s fun q => passFields ⟨4, d, l, q⟩ s) :=
    (exec_eq_actionOf _ s).trans (congrArg _ (actionOf_at_div _ hc))
  rw [hdiv]
  refine ⟨fun hne => ?_, fun hzero => ?_⟩
  · rw [divWords_of_ne_zero l hne, orFault_ok, passFields_eq (n := .br) (by rw [hc]; rfl), ofInt_tdiv_eq_sdiv]
  · rw [hzero, divWords_zero, orFault_error]
    rfl

/-- Settles O11: Mem2 loads the cell or raises MEM_INDEX. -/
theorem ldInEveryStage : Obligations.LdInEveryStage := by
  refine fun d l r s => ⟨stallsOrAdmits_of_memory rfl rfl rfl, fun hc => ?_, writesBack_of_writer rfl rfl,
    movesUnchanged_of_idle rfl (by decide)⟩
  have hload : exec (.ld d l r) s = .next (orFault (memRead r s) s fun v => passFields ⟨5, d, l, v⟩ s) :=
    (exec_eq_actionOf _ s).trans (congrArg _ (actionOf_at_mem2 _ hc))
  rw [hload]
  refine ⟨fun hcell => ?_, fun hcell => ?_⟩
  · rw [memRead_of_lt s (Nat.lt_succ_of_le hcell), orFault_ok, passFields_eq (n := .wb) (by rw [hc]; rfl)]
  · rw [memRead_of_ge s hcell, orFault_error]
    rfl

/-- Settles O12: Mem1 stores to the cell or raises MEM_INDEX. -/
theorem stInEveryStage : Obligations.StInEveryStage := by
  refine fun d l r s => ⟨stallsOrAdmits_of_memory rfl rfl rfl, fun hc => ?_, exec_commits rfl rfl,
    movesUnchanged_of_idle rfl (by decide)⟩
  have hfpc : (s.slotAt s.cursor).fpc = s.latches.mem1.fpc := by rw [hc]; rfl
  have hstore : exec (.st d l r) s = .next (orFault (memWrite l r s) s fun t => passFields ⟨6, d, l, r⟩ t) :=
    (exec_eq_actionOf _ s).trans (congrArg _ (actionOf_at_mem1 _ hc))
  rw [hstore]
  refine ⟨fun hcell => ?_, fun hcell => ?_⟩
  · rw [memWrite_of_lt r s (Nat.lt_succ_of_le hcell), orFault_ok, passFields_eq (n := .mem2) (by rw [State.setMem_cursor, hc]; rfl),
      ← hfpc]
    rfl
  · rw [memWrite_of_ge r s hcell, orFault_error]
    rfl

/-- Settles O14: RET acts in no stage but IF and WB. -/
theorem retInEveryStage : Obligations.RetInEveryStage :=
  fun _ _ _ _ => ⟨exec_admits rfl rfl rfl, exec_commits rfl rfl, movesUnchanged_of_idle rfl (by decide)⟩

/-! ### The branches -/

theorem resolve_cursor {s : State} (c : Bool) (q : Word) : (resolve c q s).cursor = s.cursor := by
  obtain ⟨_, _, _, h⟩ := resolve_frame c q s
  rw [h]

theorem resolve_of_untold {s : State} (c : Bool) (q : Word) (hu : s.predUpdate = false) :
    resolve c q s = if c then s.setPc q else s := by
  cases c <;> simp [resolve, hu]

theorem resolve_of_told {s : State} (c : Bool) (q : Word) (hu : s.predUpdate = true) :
    resolve c q s = predUpdateAt (s.slotAt s.cursor).fpc c q (if c then s.setPc q else s) := by
  cases c <;> simp [resolve, hu]

/-- BEZ tests for zero, signed or not. -/
theorem condEZ_iff (v : Word) : condEZ v = true ↔ v.toInt = 0 := by
  rw [condEZ, decide_eq_true_iff, ← BitVec.toInt_inj]
  rfl

/-- A branch by opcode number, with its condition (45_branches.md R160). -/
theorem branchStages_of_condition {mk : Byte → Word → Word → Instr} {op : Byte} {c : Word → Prop}
    (hfields : ∀ d l r, (mk d l r).fields = ⟨op, d, l, r⟩) (hop : isBranch op = true)
    (hidle : ∀ st ∈ Stage.all, st ∉ [.ifetch, .rr, .br] → st ≠ .wb → actsIn op st = false)
    (hcond : ∀ v, branchTaken op v = true ↔ c v) : BranchStages mk op c := by
  intro d l r s
  have hexec : exec (mk d l r) s = .next (actionOf ⟨op, d, l, r⟩ s) := exec_fields (hfields d l r)
  have harith : isArith op ≠ true := fun h => by simp [isBranch_of_isArith h] at hop
  have hwrites : writesReg op = false := writesReg_of_branch (sl := .ofFields ⟨op, d, l, r⟩ 0) hop
  refine ⟨fun hc => ?_, fun hc => ?_, fun hc => ?_, exec_commits (hfields d l r) hwrites, movesUnchanged_of_idle (hfields d l r) hidle⟩
  · rw [hexec, actionOf_ifetch _ hc, if_pos hop]
    rfl
  · rw [hexec, actionOf_at_rr _ hc, if_neg harith, if_pos hop, readTested]
    refine ⟨fun hd => ?_, fun hd => ?_⟩
    · rw [readReg_of_lt s ((zext8_toNat d).symm ▸ hd), orFault_ok, passFields_eq (n := .add) (by rw [hc]; rfl)]
      simp
    · rw [readReg_of_ge s ((zext8_toNat d).symm ▸ hd), orFault_error]
      rfl
  · have hfpc : (s.slotAt s.cursor).fpc = s.latches.br.fpc := by rw [hc]; rfl
    have hpass : ∀ t : State, t.cursor = s.cursor → passFields ⟨op, d, l, r⟩ t = movesTo .mem1 op d l r t :=
      fun t ht => passFields_eq (by rw [ht, hc]; rfl)
    have hbr : exec (mk d l r) s = .next (movesTo .mem1 op d l r (resolve (branchTaken op r) l s)) := by
      rw [hexec, actionOf_at_br _ hc, if_pos hop, hpass _ (resolve_cursor _ _)]
    have hnot : ¬ c r → branchTaken op r = false := fun h => Bool.eq_false_iff.mpr fun htaken => h ((hcond r).mp htaken)
    rw [hbr, ← hfpc]
    refine ⟨fun htaken hu => ?_, fun htaken hu => ?_, fun htaken hu => ?_, fun htaken hu => ?_⟩
    · rw [(hcond r).mpr htaken, resolve_of_untold _ _ hu]
      rfl
    · rw [hnot htaken, resolve_of_untold _ _ hu]
      rfl
    · rw [(hcond r).mpr htaken, resolve_of_told _ _ hu]
      rfl
    · rw [hnot htaken, resolve_of_told _ _ hu]
      rfl

/-- Settles O13: the five by opcode number, each with its condition. -/
theorem branchesInEveryStage : Obligations.BranchesInEveryStage :=
  ⟨branchStages_of_condition (op := 7) (fun _ _ _ => rfl) rfl (by decide) condEZ_iff,
    branchStages_of_condition (op := 8) (fun _ _ _ => rfl) rfl (by decide) fun _ => decide_eq_true_iff,
    branchStages_of_condition (op := 9) (fun _ _ _ => rfl) rfl (by decide) fun _ => decide_eq_true_iff,
    branchStages_of_condition (op := 10) (fun _ _ _ => rfl) rfl (by decide) fun _ => decide_eq_true_iff,
    branchStages_of_condition (op := 11) (fun _ _ _ => rfl) rfl (by decide) fun _ => decide_eq_true_iff⟩

end Sys2Proof.Machine

/-! What each instruction leaves unchanged in any stage. All that an action can do is read off the rows of 40_pipeline_cycle.md R96 once
(`exec_acts`), and the frames go through that. -/

namespace Sys2Proof.Machine

/-! ### What an action can do -/

/-- The outcomes of an action on the instruction `i`: a fault recorded; in IF a stall or an admission; and behind IF a slot handed on, with
the effect of a branch in BR, of a ST in Mem1, of WB, or none. -/
inductive Acts (i : Instr) (s : State) : State → Prop where
  | fault (c : FaultCause) : Acts i s (raiseFault c s)
  | stall (hif : s.cursor = .ifetch) (hop : isMemory i.opcode = true) : Acts i s s.addStall
  | admission (q : Word) (hif : s.cursor = .ifetch) : Acts i s ((enterIF i.fields s).setPc q)
  | pass (L : Latches) : Acts i s { s with latches := L }
  | branch (L : Latches) (q : Word) (T : Vector (BitVec 2) 16 × Vector Word 16) (hbr : s.cursor = .br) (hop : isBranch i.opcode = true)
      (htables : T = s.predictor ∨ s.predUpdate = true ∧ ∃ c a, T = (predUpdateAt s.latches.br.fpc c a s).predictor) :
      Acts i s { s with pc := q, latches := L, pt := T.1, btb := T.2 }
  | store (L : Latches) (hmem1 : s.cursor = .mem1) (hop : i.opcode = 6) :
      Acts i s { s with mem := writeCell s.mem i.left.toNat i.right, latches := L }
  | write (hwb : s.cursor = .wb) (hop : writesReg i.opcode = true) (hd : i.dest.toNat < 16) :
      Acts i s { s with regs := s.regs.set i.dest.toNat i.right, commits := s.commits + 1 }
  | count (hwb : s.cursor = .wb) : Acts i s { s with commits := s.commits + 1 }

theorem passFields_frame (f : Fields) (s : State) : ∃ L, passFields f s = { s with latches := L } := by
  unfold passFields deliver
  split
  · exact ⟨_, rfl⟩
  · exact ⟨s.latches, rfl⟩

section acts
variable {i : Instr} {s t : State}

theorem acts_passFields (f : Fields) : Acts i s (passFields f s) := by
  obtain ⟨L, h⟩ := passFields_frame f s
  exact h ▸ .pass L

theorem acts_orFault {α : Type} (x : Except FaultCause α) (g : α → Fields) : Acts i s (orFault x s fun v => passFields (g v) s) := by
  obtain ⟨v, -, h⟩ | ⟨c, -, h⟩ := orFault_cases x s fun v => passFields (g v) s
  · exact h ▸ acts_passFields _
  · exact h ▸ .fault c

/-- The tables after the action of a branch in BR. -/
theorem resolve_tables (hc : s.cursor = .br) (c : Bool) (q : Word) : (resolve c q s).predictor = s.predictor ∨
    s.predUpdate = true ∧ ∃ c' a, (resolve c q s).predictor = (predUpdateAt s.latches.br.fpc c' a s).predictor := by
  have hpredictor := resolve_predictor (s := s) c q
  by_cases hu : s.predUpdate = true
  · rw [if_pos hu, hc] at hpredictor
    exact .inr ⟨hu, c, q, hpredictor⟩
  · rw [if_neg hu] at hpredictor
    exact .inl hpredictor

theorem acts_at_br (hc : s.cursor = .br) : Acts i s (actionOf i.fields s) := by
  rw [actionOf_at_br _ hc]
  split
  case isTrue hop =>
    have htables := resolve_tables hc (branchTaken i.fields.opcode i.fields.right) i.fields.left
    obtain ⟨q, p, b, hresolve⟩ := resolve_frame (branchTaken i.fields.opcode i.fields.right) i.fields.left s
    rw [hresolve] at htables ⊢
    obtain ⟨L, h⟩ := passFields_frame i.fields { s with pc := q, pt := p, btb := b }
    exact h ▸ .branch L q (p, b) hc hop htables
  case isFalse => exact acts_passFields _

theorem acts_at_mem1 (hc : s.cursor = .mem1) : Acts i s (actionOf i.fields s) := by
  rw [actionOf_at_mem1 _ hc]
  split
  case isTrue hop =>
    obtain hlt | hge := Nat.lt_or_ge i.fields.left.toNat 65536
    · rw [memWrite_of_lt _ s hlt, orFault_ok]
      obtain ⟨L, h⟩ := passFields_frame i.fields (s.setMem (writeCell s.mem i.left.toNat i.right))
      exact h ▸ .store L hc hop
    · rw [memWrite_of_ge _ s hge]
      exact .fault _
  case isFalse => exact acts_passFields _

theorem acts_at_wb (hc : s.cursor = .wb) : Acts i s (actionOf i.fields s) := by
  rw [actionOf_at_wb _ hc]
  split
  case isTrue hop =>
    obtain hd | hd := Nat.lt_or_ge i.fields.dest.toNat 16
    · rw [commitResult_of_lt _ s hd]
      exact .write hc hop hd
    · rw [commitResult_of_ge _ s hd]
      exact .fault _
  case isFalse => exact .count hc

/-- Every action of every instruction is one of them. -/
theorem exec_acts (h : exec i s = .next t) : Acts i s t := by
  rw [exec_eq_actionOf, Host.Outcome.next.injEq] at h
  rw [← h]
  cases hc : s.cursor with
  | ifetch =>
    rw [actionOf_ifetch _ hc]
    split_ifs with hbranch hmemory
    · exact .admission _ hc
    · exact .stall hc (Bool.and_eq_true_iff.mp hmemory).1
    · exact .admission _ hc
  | id =>
    have hkept : ¬ 12 < i.fields.opcode.toNat := Nat.not_lt.mpr (opcode_le i)
    simp only [actionOf, hc, if_neg hkept]
    exact acts_passFields _
  | ia => rw [actionOf_at_ia _ hc]; split <;> exact acts_passFields _
  | add => rw [actionOf_at_add _ hc]; split_ifs <;> exact acts_passFields _
  | mul => rw [actionOf_at_mul _ hc]; split <;> exact acts_passFields _
  | rr =>
    rw [actionOf_at_rr _ hc]
    split_ifs
    · exact acts_orFault _ _
    · exact acts_orFault _ _
    · exact acts_passFields _
  | div =>
    rw [actionOf_at_div _ hc]
    split
    · exact acts_orFault _ _
    · exact acts_passFields _
  | mem2 =>
    rw [actionOf_at_mem2 _ hc]
    split
    · exact acts_orFault _ _
    · exact acts_passFields _
  | br => exact acts_at_br hc
  | mem1 => exact acts_at_mem1 hc
  | wb => exact acts_at_wb hc

/-! ### Who writes what -/

/-- What the host supplies and the other units report is written by no action. -/
theorem Acts.hostAndReportsKept (h : Acts i s t) : HostAndReportsKept s t := by
  cases h with
  | _ => exact ⟨rfl, rfl, rfl, rfl, rfl, rfl⟩

theorem Acts.faultOrKept (h : Acts i s t) : FaultOrKept s t := by
  cases h with
  | fault c =>
    cases c with
    | divZero => exact .inr (.inl rfl)
    | regIndex => exact .inr (.inr (.inl rfl))
    | memIndex => exact .inr (.inr (.inr rfl))
  | _ => exact .inl rfl

/-- Only the WB of a register-writing instruction writes a register, the one it names. -/
theorem Acts.regs (h : Acts i s t) : t.regs = s.regs ∨
    s.cursor = .wb ∧ writesReg i.opcode = true ∧ ∃ hd, t.regs = s.regs.set i.dest.toNat i.right hd := by
  cases h with
  | write hwb hop hd => exact .inr ⟨hwb, hop, hd, rfl⟩
  | _ => exact .inl rfl

/-- Only the Mem1 of a ST writes the memory, the cell it names. -/
theorem Acts.mem (h : Acts i s t) : t.mem = s.mem ∨ s.cursor = .mem1 ∧ i.opcode = 6 ∧ t.mem = writeCell s.mem i.left.toNat i.right := by
  cases h with
  | store L hmem1 hop => exact .inr ⟨hmem1, hop, rfl⟩
  | _ => exact .inl rfl

/-- Only IF and the BR of a branch write `pc`. -/
theorem Acts.pc (h : Acts i s t) : t.pc = s.pc ∨ s.cursor = .ifetch ∨ s.cursor = .br ∧ isBranch i.opcode = true := by
  cases h with
  | admission q hif => exact .inr (.inl hif)
  | branch L q T hbr hop => exact .inr (.inr ⟨hbr, hop⟩)
  | _ => exact .inl rfl

/-- Only the BR of a branch tells the predictor, and only with PRED_UPDATE true. -/
theorem Acts.predictor (h : Acts i s t) : t.predictor = s.predictor ∨ s.cursor = .br ∧ isBranch i.opcode = true ∧
    s.predUpdate = true ∧ ∃ c q, t.predictor = (predUpdateAt s.latches.br.fpc c q s).predictor := by
  cases h with
  | branch L q T hbr hop htables => exact htables.imp_right fun ⟨hu, htold⟩ => ⟨hbr, hop, hu, htold⟩
  | _ => exact .inl rfl

/-- Only WB counts a commit. -/
theorem Acts.commits (h : Acts i s t) (hwb : s.cursor ≠ .wb) : t.commits = s.commits := by
  cases h with
  | write hc | count hc => exact absurd hc hwb
  | _ => rfl

/-- Only the IF of a LD or ST counts a stall. -/
theorem Acts.stalls (h : Acts i s t) : t.stalls = s.stalls ∨ s.cursor = .ifetch ∧ isMemory i.opcode = true := by
  cases h with
  | stall hif hop => exact .inr ⟨hif, hop⟩
  | _ => exact .inl rfl

/-! ### The frames -/

theorem Acts.pc_and_stalls_kept (h : Acts i s t) (hop : isBranch i.opcode = false) (hif : s.cursor ≠ .ifetch) :
    t.pc = s.pc ∧ t.stalls = s.stalls :=
  ⟨h.pc.resolve_right fun hw => hw.elim hif fun hb => by simp [hop] at hb, h.stalls.resolve_right fun hw => hif hw.1⟩

theorem Acts.tables_kept (h : Acts i s t) (hop : s.cursor ≠ .br ∨ s.predUpdate = false ∨ isBranch i.opcode = false) :
    t.pt = s.pt ∧ t.btb = s.btb := by
  refine Prod.mk.inj (h.predictor.resolve_right fun ⟨hbr, hbranch, hu, _⟩ => ?_)
  obtain hne | hfalse | hfalse := hop
  · exact hne hbr
  · simp [hu] at hfalse
  · simp [hbranch] at hfalse

theorem Acts.mem_kept (h : Acts i s t) (hop : i.opcode ≠ 6) : t.mem = s.mem := h.mem.resolve_right fun hw => hop hw.2.1

theorem Acts.regs_kept (h : Acts i s t) (hop : writesReg i.opcode = false) : t.regs = s.regs :=
  h.regs.resolve_right fun hw => by simp [hop] at hw

end acts

/-- Settles O15: none of the six is a branch or a ST, and WB writes the destination alone. -/
theorem registerWritersFrame : Obligations.RegisterWritersFrame := by
  intro i s t hop hexec
  have h := exec_acts hexec
  have hbranch : isBranch i.opcode = false := decide_eq_false (by omega)
  have hstore : i.opcode ≠ 6 := fun e => by rw [e] at hop; exact absurd hop (by decide)
  obtain ⟨hpt, hbtb⟩ := h.tables_kept (.inr (.inr hbranch))
  refine ⟨fun k hk hne => ?_, fun a => by rw [h.mem_kept hstore], hpt, hbtb, h.pc_and_stalls_kept hbranch, h.commits,
    (exec_actionFrame hexec).2.2, h.faultOrKept, h.hostAndReportsKept⟩
  obtain hregs | ⟨hwb, -, hd, hregs⟩ := h.regs
  · simp only [hregs]
  · have hkd : i.dest.toNat ≠ k := fun e => hne.elim (fun hne => hne hwb) fun hne => hne e.symm
    simp only [hregs, Vector.getElem_set_ne hd hk hkd]

/-- Settles O16: a ST writes its cell in Mem1 and no register. -/
theorem storeFrame : Obligations.StoreFrame := by
  intro d l r s t hexec
  have h := exec_acts hexec
  obtain ⟨hpt, hbtb⟩ := h.tables_kept (.inr (.inr rfl))
  refine ⟨h.regs_kept rfl, fun a ha => ?_, hpt, hbtb, h.pc_and_stalls_kept rfl, h.commits, (exec_actionFrame hexec).2.2, h.faultOrKept,
    h.hostAndReportsKept⟩
  obtain hmem | ⟨hmem1, -, hmem⟩ := h.mem
  · rw [hmem]
  · rw [hmem]
    exact readByte_writeCell_outside _ _ _ (ha.resolve_left fun hne => hne hmem1)

/-- The entries are read off the two tables. -/
theorem ptAt_btbAt_congr {s t : State} (h : t.predictor = s.predictor) (j : BitVec 4) : t.ptAt j = s.ptAt j ∧ t.btbAt j = s.btbAt j := by
  obtain ⟨hpt, hbtb⟩ := Prod.mk.inj h
  exact ⟨by simp only [State.ptAt, hpt], by simp only [State.btbAt, hbtb]⟩

/-- An update leaves the entries of every other index alone (42_branch_predictor.md R128). -/
theorem predUpdateAt_other (a q : Word) (c : Bool) (s : State) {j : BitVec 4} (hj : j ≠ predIndex a) :
    (predUpdateAt a c q s).ptAt j = s.ptAt j ∧ (predUpdateAt a c q s).btbAt j = s.btbAt j := by
  cases c with
  | false => exact ⟨(ptAt_setPt s _ j _).trans (if_neg hj), rfl⟩
  | true => exact ⟨(ptAt_setPt s _ j _).trans (if_neg hj), by rw [predUpdateAt_taken_btbAt, if_neg hj]⟩

/-- Settles O17: the predictor is told at the index of the BR slot alone. -/
theorem branchAndRetFrame : Obligations.BranchAndRetFrame := by
  intro i s t hop hexec
  have h := exec_acts hexec
  have hwrites : writesReg i.opcode = false := decide_eq_false (by omega)
  have hmemory : isMemory i.opcode = false := decide_eq_false (by omega)
  have hstore : i.opcode ≠ 6 := fun e => by rw [e] at hop; exact absurd hop (by decide)
  have hret : i.opcode = 12 → isBranch i.opcode = false := fun e => by rw [e]; rfl
  refine ⟨h.regs_kept hwrites, fun a => by rw [h.mem_kept hstore], h.stalls.resolve_right fun hw => by simp [hmemory] at hw,
    fun hif hw => ?_, fun hw => h.tables_kept (hw.imp_right fun hw => hw.imp_right hret), fun j hj => ?_, h.commits,
    (exec_actionFrame hexec).2.2, h.faultOrKept, h.hostAndReportsKept⟩
  · obtain hpc | hc | ⟨hbr, hbranch⟩ := h.pc
    · exact hpc
    · exact absurd hc hif
    · exact hw.elim (fun hne => absurd hbr hne) fun hop => by simp [hret hop] at hbranch
  · obtain htables | ⟨-, -, -, c, q, htables⟩ := h.predictor
    · exact ptAt_btbAt_congr htables j
    · obtain ⟨hpt, hbtb⟩ := ptAt_btbAt_congr htables j
      obtain ⟨hpt', hbtb'⟩ := predUpdateAt_other _ q c s hj
      exact ⟨hpt.trans hpt', hbtb.trans hbtb'⟩

end Sys2Proof.Machine
